-- ==== Sys2Proof/Word.lean ====
section
/-! DEFINITION. The two word types of the core (spec/00_scope.md R7): every register, memory cell and address is one of them. -/

namespace Sys2Proof

/-- An 8-bit value: a register of the register file, a memory byte, an opcode byte. -/
abbrev Byte := BitVec 8

/-- A 16-bit value: SP, PC, a register pair, an address. -/
abbrev Word := BitVec 16

end Sys2Proof
end

