-- ==== Sys2Proof/Syntax.lean ====
section
/-! DEFINITION. The operand names of the instruction set (spec/30_encoding.md R102 to R104) and its instructions: one
constructor for each row of spec/opcode_table.json, the rows with operand bytes first (Lean's compiler wants them among the
first constructors of a large type), each part in the table's order. A constructor's name is the row's mnemonic in
small letters, `at` standing for the parentheses of a memory operand; its arguments are the operand bytes that follow the
opcode (d8, e8, a8, d16, a16: R105 to R108). -/

namespace Sys2Proof

/-- The registers `R8[n]` selects, n ≠ 6 (R102). -/
inductive Reg8 where
  | b
  | c
  | d
  | e
  | h
  | l
  | a
deriving DecidableEq, Repr

/-- `R16sp[p]` (R103): the pairs of LD rr,d16; INC rr; DEC rr; ADD HL,rr. -/
inductive PairSp where
  | bc
  | de
  | hl
  | sp
deriving DecidableEq, Repr

/-- `R16af[p]` (R103): the pairs of PUSH rr and POP rr. -/
inductive PairAf where
  | bc
  | de
  | hl
  | af
deriving DecidableEq, Repr

/-- The conditions `cc` (R104). -/
inductive Cond where
  | nz
  | z
  | nc
  | c
deriving DecidableEq, Repr

/-- The instruction set: the 256 rows of the primary table and the 256 rows of the CB sub-table. -/
inductive Instr where
  | ld_bc_d16 (d16 : Word)
  | ld_b_d8 (d8 : Byte)
  | ld_at_a16_sp (a16 : Word)
  | ld_c_d8 (d8 : Byte)
  | stop (x : Byte)
  | ld_de_d16 (d16 : Word)
  | ld_d_d8 (d8 : Byte)
  | jr_e8 (e8 : Byte)
  | ld_e_d8 (d8 : Byte)
  | jr_nz_e8 (e8 : Byte)
  | ld_hl_d16 (d16 : Word)
  | ld_h_d8 (d8 : Byte)
  | jr_z_e8 (e8 : Byte)
  | ld_l_d8 (d8 : Byte)
  | jr_nc_e8 (e8 : Byte)
  | ld_sp_d16 (d16 : Word)
  | ld_at_hl_d8 (d8 : Byte)
  | jr_c_e8 (e8 : Byte)
  | ld_a_d8 (d8 : Byte)
  | jp_nz_a16 (a16 : Word)
  | jp_a16 (a16 : Word)
  | call_nz_a16 (a16 : Word)
  | add_a_d8 (d8 : Byte)
  | jp_z_a16 (a16 : Word)
  | cb_prefix (sub : Byte)
  | call_z_a16 (a16 : Word)
  | call_a16 (a16 : Word)
  | adc_a_d8 (d8 : Byte)
  | jp_nc_a16 (a16 : Word)
  | call_nc_a16 (a16 : Word)
  | sub_d8 (d8 : Byte)
  | jp_c_a16 (a16 : Word)
  | call_c_a16 (a16 : Word)
  | sbc_a_d8 (d8 : Byte)
  | ldh_at_a8_a (a8 : Byte)
  | and_d8 (d8 : Byte)
  | add_sp_e8 (e8 : Byte)
  | ld_at_a16_a (a16 : Word)
  | xor_d8 (d8 : Byte)
  | ldh_a_at_a8 (a8 : Byte)
  | or_d8 (d8 : Byte)
  | ld_hl_sp_e8 (e8 : Byte)
  | ld_a_at_a16 (a16 : Word)
  | cp_d8 (d8 : Byte)
  | nop
  | ld_at_bc_a
  | inc_bc
  | inc_b
  | dec_b
  | rlca
  | add_hl_bc
  | ld_a_at_bc
  | dec_bc
  | inc_c
  | dec_c
  | rrca
  | ld_at_de_a
  | inc_de
  | inc_d
  | dec_d
  | rla
  | add_hl_de
  | ld_a_at_de
  | dec_de
  | inc_e
  | dec_e
  | rra
  | ld_at_hl_inc_a
  | inc_hl
  | inc_h
  | dec_h
  | daa
  | add_hl_hl
  | ld_a_at_hl_inc
  | dec_hl
  | inc_l
  | dec_l
  | cpl
  | ld_at_hl_dec_a
  | inc_sp
  | inc_at_hl
  | dec_at_hl
  | scf
  | add_hl_sp
  | ld_a_at_hl_dec
  | dec_sp
  | inc_a
  | dec_a
  | ccf
  | ld_b_b
  | ld_b_c
  | ld_b_d
  | ld_b_e
  | ld_b_h
  | ld_b_l
  | ld_b_at_hl
  | ld_b_a
  | ld_c_b
  | ld_c_c
  | ld_c_d
  | ld_c_e
  | ld_c_h
  | ld_c_l
  | ld_c_at_hl
  | ld_c_a
  | ld_d_b
  | ld_d_c
  | ld_d_d
  | ld_d_e
  | ld_d_h
  | ld_d_l
  | ld_d_at_hl
  | ld_d_a
  | ld_e_b
  | ld_e_c
  | ld_e_d
  | ld_e_e
  | ld_e_h
  | ld_e_l
  | ld_e_at_hl
  | ld_e_a
  | ld_h_b
  | ld_h_c
  | ld_h_d
  | ld_h_e
  | ld_h_h
  | ld_h_l
  | ld_h_at_hl
  | ld_h_a
  | ld_l_b
  | ld_l_c
  | ld_l_d
  | ld_l_e
  | ld_l_h
  | ld_l_l
  | ld_l_at_hl
  | ld_l_a
  | ld_at_hl_b
  | ld_at_hl_c
  | ld_at_hl_d
  | ld_at_hl_e
  | ld_at_hl_h
  | ld_at_hl_l
  | halt
  | ld_at_hl_a
  | ld_a_b
  | ld_a_c
  | ld_a_d
  | ld_a_e
  | ld_a_h
  | ld_a_l
  | ld_a_at_hl
  | ld_a_a
  | add_a_b
  | add_a_c
  | add_a_d
  | add_a_e
  | add_a_h
  | add_a_l
  | add_a_at_hl
  | add_a_a
  | adc_a_b
  | adc_a_c
  | adc_a_d
  | adc_a_e
  | adc_a_h
  | adc_a_l
  | adc_a_at_hl
  | adc_a_a
  | sub_b
  | sub_c
  | sub_d
  | sub_e
  | sub_h
  | sub_l
  | sub_at_hl
  | sub_a
  | sbc_a_b
  | sbc_a_c
  | sbc_a_d
  | sbc_a_e
  | sbc_a_h
  | sbc_a_l
  | sbc_a_at_hl
  | sbc_a_a
  | and_b
  | and_c
  | and_d
  | and_e
  | and_h
  | and_l
  | and_at_hl
  | and_a
  | xor_b
  | xor_c
  | xor_d
  | xor_e
  | xor_h
  | xor_l
  | xor_at_hl
  | xor_a
  | or_b
  | or_c
  | or_d
  | or_e
  | or_h
  | or_l
  | or_at_hl
  | or_a
  | cp_b
  | cp_c
  | cp_d
  | cp_e
  | cp_h
  | cp_l
  | cp_at_hl
  | cp_a
  | ret_nz
  | pop_bc
  | push_bc
  | rst_00
  | ret_z
  | ret
  | rst_08
  | ret_nc
  | pop_de
  | illegal_d3
  | push_de
  | rst_10
  | ret_c
  | reti
  | illegal_db
  | illegal_dd
  | rst_18
  | pop_hl
  | ld_at_c_a
  | illegal_e3
  | illegal_e4
  | push_hl
  | rst_20
  | jp_hl
  | illegal_eb
  | illegal_ec
  | illegal_ed
  | rst_28
  | pop_af
  | ld_a_at_c
  | di
  | illegal_f4
  | push_af
  | rst_30
  | ld_sp_hl
  | ei
  | illegal_fc
  | illegal_fd
  | rst_38
  | rlc_b
  | rlc_c
  | rlc_d
  | rlc_e
  | rlc_h
  | rlc_l
  | rlc_at_hl
  | rlc_a
  | rrc_b
  | rrc_c
  | rrc_d
  | rrc_e
  | rrc_h
  | rrc_l
  | rrc_at_hl
  | rrc_a
  | rl_b
  | rl_c
  | rl_d
  | rl_e
  | rl_h
  | rl_l
  | rl_at_hl
  | rl_a
  | rr_b
  | rr_c
  | rr_d
  | rr_e
  | rr_h
  | rr_l
  | rr_at_hl
  | rr_a
  | sla_b
  | sla_c
  | sla_d
  | sla_e
  | sla_h
  | sla_l
  | sla_at_hl
  | sla_a
  | sra_b
  | sra_c
  | sra_d
  | sra_e
  | sra_h
  | sra_l
  | sra_at_hl
  | sra_a
  | swap_b
  | swap_c
  | swap_d
  | swap_e
  | swap_h
  | swap_l
  | swap_at_hl
  | swap_a
  | srl_b
  | srl_c
  | srl_d
  | srl_e
  | srl_h
  | srl_l
  | srl_at_hl
  | srl_a
  | bit_0_b
  | bit_0_c
  | bit_0_d
  | bit_0_e
  | bit_0_h
  | bit_0_l
  | bit_0_at_hl
  | bit_0_a
  | bit_1_b
  | bit_1_c
  | bit_1_d
  | bit_1_e
  | bit_1_h
  | bit_1_l
  | bit_1_at_hl
  | bit_1_a
  | bit_2_b
  | bit_2_c
  | bit_2_d
  | bit_2_e
  | bit_2_h
  | bit_2_l
  | bit_2_at_hl
  | bit_2_a
  | bit_3_b
  | bit_3_c
  | bit_3_d
  | bit_3_e
  | bit_3_h
  | bit_3_l
  | bit_3_at_hl
  | bit_3_a
  | bit_4_b
  | bit_4_c
  | bit_4_d
  | bit_4_e
  | bit_4_h
  | bit_4_l
  | bit_4_at_hl
  | bit_4_a
  | bit_5_b
  | bit_5_c
  | bit_5_d
  | bit_5_e
  | bit_5_h
  | bit_5_l
  | bit_5_at_hl
  | bit_5_a
  | bit_6_b
  | bit_6_c
  | bit_6_d
  | bit_6_e
  | bit_6_h
  | bit_6_l
  | bit_6_at_hl
  | bit_6_a
  | bit_7_b
  | bit_7_c
  | bit_7_d
  | bit_7_e
  | bit_7_h
  | bit_7_l
  | bit_7_at_hl
  | bit_7_a
  | res_0_b
  | res_0_c
  | res_0_d
  | res_0_e
  | res_0_h
  | res_0_l
  | res_0_at_hl
  | res_0_a
  | res_1_b
  | res_1_c
  | res_1_d
  | res_1_e
  | res_1_h
  | res_1_l
  | res_1_at_hl
  | res_1_a
  | res_2_b
  | res_2_c
  | res_2_d
  | res_2_e
  | res_2_h
  | res_2_l
  | res_2_at_hl
  | res_2_a
  | res_3_b
  | res_3_c
  | res_3_d
  | res_3_e
  | res_3_h
  | res_3_l
  | res_3_at_hl
  | res_3_a
  | res_4_b
  | res_4_c
  | res_4_d
  | res_4_e
  | res_4_h
  | res_4_l
  | res_4_at_hl
  | res_4_a
  | res_5_b
  | res_5_c
  | res_5_d
  | res_5_e
  | res_5_h
  | res_5_l
  | res_5_at_hl
  | res_5_a
  | res_6_b
  | res_6_c
  | res_6_d
  | res_6_e
  | res_6_h
  | res_6_l
  | res_6_at_hl
  | res_6_a
  | res_7_b
  | res_7_c
  | res_7_d
  | res_7_e
  | res_7_h
  | res_7_l
  | res_7_at_hl
  | res_7_a
  | set_0_b
  | set_0_c
  | set_0_d
  | set_0_e
  | set_0_h
  | set_0_l
  | set_0_at_hl
  | set_0_a
  | set_1_b
  | set_1_c
  | set_1_d
  | set_1_e
  | set_1_h
  | set_1_l
  | set_1_at_hl
  | set_1_a
  | set_2_b
  | set_2_c
  | set_2_d
  | set_2_e
  | set_2_h
  | set_2_l
  | set_2_at_hl
  | set_2_a
  | set_3_b
  | set_3_c
  | set_3_d
  | set_3_e
  | set_3_h
  | set_3_l
  | set_3_at_hl
  | set_3_a
  | set_4_b
  | set_4_c
  | set_4_d
  | set_4_e
  | set_4_h
  | set_4_l
  | set_4_at_hl
  | set_4_a
  | set_5_b
  | set_5_c
  | set_5_d
  | set_5_e
  | set_5_h
  | set_5_l
  | set_5_at_hl
  | set_5_a
  | set_6_b
  | set_6_c
  | set_6_d
  | set_6_e
  | set_6_h
  | set_6_l
  | set_6_at_hl
  | set_6_a
  | set_7_b
  | set_7_c
  | set_7_d
  | set_7_e
  | set_7_h
  | set_7_l
  | set_7_at_hl
  | set_7_a
deriving DecidableEq, Repr

end Sys2Proof
end

