-- ==== Sys2Proof/Config.lean ====
section
/-! DEFINITION. What the spec lets an implementation fix (spec/00_scope.md R8) and the two free values of the model.
The parameters are plain data, so that a state can hold them (notes/assumptions/1.md): every statement about every
state is then a statement about every choice of them. -/

namespace Sys2Proof

/-- MEM_INIT (spec/00_scope.md R8, 92 D5, 93 U5): what a byte of memory that nothing has written holds. A free value:
nothing constrains it (notes/assumptions/2.md). -/
opaque Config.memInit : Nat → Byte

/-- The byte the renderer leaves at an address of RENDER_WRITES during hook call number `call` (spec/40_engine.md R139,
93 U8). A free value of the call's number and the address (notes/assumptions/3.md). -/
opaque Config.hookByte : (call : Nat) → (address : Nat) → Byte

/-- A key of the opcode table (spec/40_engine.md R133): a primary opcode byte, or a sub-opcode of the 0xCB sub-table. -/
inductive Key where
  | primary (op : Byte)
  | cb (sub : Byte)
deriving DecidableEq, Repr

/-- One entry of CYCLE_COST that differs from the table of spec/70 R410 (notes/assumptions/11.md). -/
structure CostEntry where
  key : Key
  taken : Nat
  notTaken : Nat
deriving DecidableEq, Repr

/-- The parameters of spec/00_scope.md R8 that stay fixed while the machine runs. -/
structure Params where
  /-- FRAME_CYCLES: the frame threshold of the cycle accumulator. -/
  frameCycles : Nat
  /-- CYCLE_COST, as the entries that differ from the default table. -/
  costs : List CostEntry
  /-- IMPLEMENTED, as the keys taken out of the default set (spec/30_encoding.md R115). -/
  removed : List Key
  /-- MEM_SIZE: how many bytes of the backing store the port reaches. -/
  memSize : Nat
  /-- RENDER_WRITES: the addresses the hook may write. -/
  renderWrites : List Word
  /-- IRQ_PORT: whether the injection port is connected. -/
  irqPort : Bool
deriving DecidableEq, Repr

/-- The values spec/00_scope.md R8 fixes as the defaults. -/
def Params.default : Params where
  frameCycles := 70224
  costs := []
  removed := []
  memSize := 0x10000
  renderWrites := [0xFF44]
  irqPort := false

/-- The range R8 gives MEM_SIZE ("any value 1..0x10000 allowed"). -/
def Params.wellFormed (p : Params) : Bool :=
  decide (1 ≤ p.memSize) && decide (p.memSize ≤ 0x10000)

end Sys2Proof
end

