-- ==== Sys2Proof/Machine/Bits.lean ====
section
/-! DEFINITION. Byte order, sign extension and bit-field helpers (spec/00_scope.md R9, R10). -/

namespace Sys2Proof

/-- The high byte `v[15:8]` of a 16-bit value. -/
def hiByte (v : Word) : Byte := v.extractLsb' 8 8

/-- The low byte `v[7:0]` of a 16-bit value. -/
def loByte (v : Word) : Byte := v.extractLsb' 0 8

/-- `{hi, lo}`: the 16-bit value of two bytes (R9). -/
def wordOf (hi lo : Byte) : Word := hi ++ lo

/-- `sext_16(v)`: an 8-bit value read as two's complement and extended to 16 bits (R10). -/
def sext16 (v : Byte) : Word := v.signExtend 16

/-- `signed8(v)`: the integer in [-128, 127] a byte stands for (R10). -/
def signed8 (v : Byte) : Int := v.toInt

/-- The high-page address `0xFF00 + n` (spec/30_encoding.md R108). -/
def highPage (n : Byte) : Word := 0xFF00 + n.setWidth 16

/-- The field `x = o[7:6]` of an opcode byte (spec/30_encoding.md R101). -/
def fieldX (o : Byte) : BitVec 2 := o.extractLsb' 6 2

/-- The field `y = o[5:3]`. -/
def fieldY (o : Byte) : BitVec 3 := o.extractLsb' 3 3

/-- The field `z = o[2:0]`. -/
def fieldZ (o : Byte) : BitVec 3 := o.extractLsb' 0 3

end Sys2Proof
end

