-- ==== Sys2Proof/Decode.lean ====
section
/-! DEFINITION. The decoder, total on any bytes, and the encoder (spec/30_encoding.md R100, R111 to R116), written from
spec/opcode_table.json: a primary entry stands at the place of its opcode byte, a CB entry at that of its sub-opcode. -/

namespace Sys2Proof

/-- What the opcode table holds for a primary opcode: the operand bytes it consumes and the instruction they make (the
operand arity of spec/40_engine.md R133). -/
inductive Entry where
  /-- No byte follows (formats `op` and `illegal`). -/
  | bare (i : Instr)
  /-- One byte follows (formats `op_d8`, `op_e8`, `op_a8`, `stop`, and the prefix). -/
  | byte (f : Byte → Instr)
  /-- Two bytes follow, the low byte first (formats `op_d16`, `op_a16`; R107). -/
  | word (f : Word → Instr)

/-- Primary opcodes 0x00 to 0x0F. -/
def primaryRow0 : List Entry :=
  [.bare .nop, .word .ld_bc_d16, .bare .ld_at_bc_a, .bare .inc_bc,
   .bare .inc_b, .bare .dec_b, .byte .ld_b_d8, .bare .rlca,
   .word .ld_at_a16_sp, .bare .add_hl_bc, .bare .ld_a_at_bc, .bare .dec_bc,
   .bare .inc_c, .bare .dec_c, .byte .ld_c_d8, .bare .rrca]

/-- Primary opcodes 0x10 to 0x1F. -/
def primaryRow1 : List Entry :=
  [.byte .stop, .word .ld_de_d16, .bare .ld_at_de_a, .bare .inc_de,
   .bare .inc_d, .bare .dec_d, .byte .ld_d_d8, .bare .rla,
   .byte .jr_e8, .bare .add_hl_de, .bare .ld_a_at_de, .bare .dec_de,
   .bare .inc_e, .bare .dec_e, .byte .ld_e_d8, .bare .rra]

/-- Primary opcodes 0x20 to 0x2F. -/
def primaryRow2 : List Entry :=
  [.byte .jr_nz_e8, .word .ld_hl_d16, .bare .ld_at_hl_inc_a, .bare .inc_hl,
   .bare .inc_h, .bare .dec_h, .byte .ld_h_d8, .bare .daa,
   .byte .jr_z_e8, .bare .add_hl_hl, .bare .ld_a_at_hl_inc, .bare .dec_hl,
   .bare .inc_l, .bare .dec_l, .byte .ld_l_d8, .bare .cpl]

/-- Primary opcodes 0x30 to 0x3F. -/
def primaryRow3 : List Entry :=
  [.byte .jr_nc_e8, .word .ld_sp_d16, .bare .ld_at_hl_dec_a, .bare .inc_sp,
   .bare .inc_at_hl, .bare .dec_at_hl, .byte .ld_at_hl_d8, .bare .scf,
   .byte .jr_c_e8, .bare .add_hl_sp, .bare .ld_a_at_hl_dec, .bare .dec_sp,
   .bare .inc_a, .bare .dec_a, .byte .ld_a_d8, .bare .ccf]

/-- Primary opcodes 0x40 to 0x4F. -/
def primaryRow4 : List Entry :=
  [.bare .ld_b_b, .bare .ld_b_c, .bare .ld_b_d, .bare .ld_b_e,
   .bare .ld_b_h, .bare .ld_b_l, .bare .ld_b_at_hl, .bare .ld_b_a,
   .bare .ld_c_b, .bare .ld_c_c, .bare .ld_c_d, .bare .ld_c_e,
   .bare .ld_c_h, .bare .ld_c_l, .bare .ld_c_at_hl, .bare .ld_c_a]

/-- Primary opcodes 0x50 to 0x5F. -/
def primaryRow5 : List Entry :=
  [.bare .ld_d_b, .bare .ld_d_c, .bare .ld_d_d, .bare .ld_d_e,
   .bare .ld_d_h, .bare .ld_d_l, .bare .ld_d_at_hl, .bare .ld_d_a,
   .bare .ld_e_b, .bare .ld_e_c, .bare .ld_e_d, .bare .ld_e_e,
   .bare .ld_e_h, .bare .ld_e_l, .bare .ld_e_at_hl, .bare .ld_e_a]

/-- Primary opcodes 0x60 to 0x6F. -/
def primaryRow6 : List Entry :=
  [.bare .ld_h_b, .bare .ld_h_c, .bare .ld_h_d, .bare .ld_h_e,
   .bare .ld_h_h, .bare .ld_h_l, .bare .ld_h_at_hl, .bare .ld_h_a,
   .bare .ld_l_b, .bare .ld_l_c, .bare .ld_l_d, .bare .ld_l_e,
   .bare .ld_l_h, .bare .ld_l_l, .bare .ld_l_at_hl, .bare .ld_l_a]

/-- Primary opcodes 0x70 to 0x7F. -/
def primaryRow7 : List Entry :=
  [.bare .ld_at_hl_b, .bare .ld_at_hl_c, .bare .ld_at_hl_d, .bare .ld_at_hl_e,
   .bare .ld_at_hl_h, .bare .ld_at_hl_l, .bare .halt, .bare .ld_at_hl_a,
   .bare .ld_a_b, .bare .ld_a_c, .bare .ld_a_d, .bare .ld_a_e,
   .bare .ld_a_h, .bare .ld_a_l, .bare .ld_a_at_hl, .bare .ld_a_a]

/-- Primary opcodes 0x80 to 0x8F. -/
def primaryRow8 : List Entry :=
  [.bare .add_a_b, .bare .add_a_c, .bare .add_a_d, .bare .add_a_e,
   .bare .add_a_h, .bare .add_a_l, .bare .add_a_at_hl, .bare .add_a_a,
   .bare .adc_a_b, .bare .adc_a_c, .bare .adc_a_d, .bare .adc_a_e,
   .bare .adc_a_h, .bare .adc_a_l, .bare .adc_a_at_hl, .bare .adc_a_a]

/-- Primary opcodes 0x90 to 0x9F. -/
def primaryRow9 : List Entry :=
  [.bare .sub_b, .bare .sub_c, .bare .sub_d, .bare .sub_e,
   .bare .sub_h, .bare .sub_l, .bare .sub_at_hl, .bare .sub_a,
   .bare .sbc_a_b, .bare .sbc_a_c, .bare .sbc_a_d, .bare .sbc_a_e,
   .bare .sbc_a_h, .bare .sbc_a_l, .bare .sbc_a_at_hl, .bare .sbc_a_a]

/-- Primary opcodes 0xA0 to 0xAF. -/
def primaryRowA : List Entry :=
  [.bare .and_b, .bare .and_c, .bare .and_d, .bare .and_e,
   .bare .and_h, .bare .and_l, .bare .and_at_hl, .bare .and_a,
   .bare .xor_b, .bare .xor_c, .bare .xor_d, .bare .xor_e,
   .bare .xor_h, .bare .xor_l, .bare .xor_at_hl, .bare .xor_a]

/-- Primary opcodes 0xB0 to 0xBF. -/
def primaryRowB : List Entry :=
  [.bare .or_b, .bare .or_c, .bare .or_d, .bare .or_e,
   .bare .or_h, .bare .or_l, .bare .or_at_hl, .bare .or_a,
   .bare .cp_b, .bare .cp_c, .bare .cp_d, .bare .cp_e,
   .bare .cp_h, .bare .cp_l, .bare .cp_at_hl, .bare .cp_a]

/-- Primary opcodes 0xC0 to 0xCF. -/
def primaryRowC : List Entry :=
  [.bare .ret_nz, .bare .pop_bc, .word .jp_nz_a16, .word .jp_a16,
   .word .call_nz_a16, .bare .push_bc, .byte .add_a_d8, .bare .rst_00,
   .bare .ret_z, .bare .ret, .word .jp_z_a16, .byte .cb_prefix,
   .word .call_z_a16, .word .call_a16, .byte .adc_a_d8, .bare .rst_08]

/-- Primary opcodes 0xD0 to 0xDF. -/
def primaryRowD : List Entry :=
  [.bare .ret_nc, .bare .pop_de, .word .jp_nc_a16, .bare .illegal_d3,
   .word .call_nc_a16, .bare .push_de, .byte .sub_d8, .bare .rst_10,
   .bare .ret_c, .bare .reti, .word .jp_c_a16, .bare .illegal_db,
   .word .call_c_a16, .bare .illegal_dd, .byte .sbc_a_d8, .bare .rst_18]

/-- Primary opcodes 0xE0 to 0xEF. -/
def primaryRowE : List Entry :=
  [.byte .ldh_at_a8_a, .bare .pop_hl, .bare .ld_at_c_a, .bare .illegal_e3,
   .bare .illegal_e4, .bare .push_hl, .byte .and_d8, .bare .rst_20,
   .byte .add_sp_e8, .bare .jp_hl, .word .ld_at_a16_a, .bare .illegal_eb,
   .bare .illegal_ec, .bare .illegal_ed, .byte .xor_d8, .bare .rst_28]

/-- Primary opcodes 0xF0 to 0xFF. -/
def primaryRowF : List Entry :=
  [.byte .ldh_a_at_a8, .bare .pop_af, .bare .ld_a_at_c, .bare .di,
   .bare .illegal_f4, .bare .push_af, .byte .or_d8, .bare .rst_30,
   .byte .ld_hl_sp_e8, .bare .ld_sp_hl, .word .ld_a_at_a16, .bare .ei,
   .bare .illegal_fc, .bare .illegal_fd, .byte .cp_d8, .bare .rst_38]

/-- The primary opcode table (R113). -/
def primaryTable : List Entry :=
  primaryRow0 ++ primaryRow1 ++ primaryRow2 ++ primaryRow3
  ++ primaryRow4 ++ primaryRow5 ++ primaryRow6 ++ primaryRow7
  ++ primaryRow8 ++ primaryRow9 ++ primaryRowA ++ primaryRowB
  ++ primaryRowC ++ primaryRowD ++ primaryRowE ++ primaryRowF

/-- Sub-opcodes 0x00 to 0x0F. -/
def cbRow0 : List Instr :=
  [.rlc_b, .rlc_c, .rlc_d, .rlc_e, .rlc_h, .rlc_l, .rlc_at_hl, .rlc_a,
   .rrc_b, .rrc_c, .rrc_d, .rrc_e, .rrc_h, .rrc_l, .rrc_at_hl, .rrc_a]

/-- Sub-opcodes 0x10 to 0x1F. -/
def cbRow1 : List Instr :=
  [.rl_b, .rl_c, .rl_d, .rl_e, .rl_h, .rl_l, .rl_at_hl, .rl_a,
   .rr_b, .rr_c, .rr_d, .rr_e, .rr_h, .rr_l, .rr_at_hl, .rr_a]

/-- Sub-opcodes 0x20 to 0x2F. -/
def cbRow2 : List Instr :=
  [.sla_b, .sla_c, .sla_d, .sla_e, .sla_h, .sla_l, .sla_at_hl, .sla_a,
   .sra_b, .sra_c, .sra_d, .sra_e, .sra_h, .sra_l, .sra_at_hl, .sra_a]

/-- Sub-opcodes 0x30 to 0x3F. -/
def cbRow3 : List Instr :=
  [.swap_b, .swap_c, .swap_d, .swap_e, .swap_h, .swap_l, .swap_at_hl, .swap_a,
   .srl_b, .srl_c, .srl_d, .srl_e, .srl_h, .srl_l, .srl_at_hl, .srl_a]

/-- Sub-opcodes 0x40 to 0x4F. -/
def cbRow4 : List Instr :=
  [.bit_0_b, .bit_0_c, .bit_0_d, .bit_0_e, .bit_0_h, .bit_0_l, .bit_0_at_hl, .bit_0_a,
   .bit_1_b, .bit_1_c, .bit_1_d, .bit_1_e, .bit_1_h, .bit_1_l, .bit_1_at_hl, .bit_1_a]

/-- Sub-opcodes 0x50 to 0x5F. -/
def cbRow5 : List Instr :=
  [.bit_2_b, .bit_2_c, .bit_2_d, .bit_2_e, .bit_2_h, .bit_2_l, .bit_2_at_hl, .bit_2_a,
   .bit_3_b, .bit_3_c, .bit_3_d, .bit_3_e, .bit_3_h, .bit_3_l, .bit_3_at_hl, .bit_3_a]

/-- Sub-opcodes 0x60 to 0x6F. -/
def cbRow6 : List Instr :=
  [.bit_4_b, .bit_4_c, .bit_4_d, .bit_4_e, .bit_4_h, .bit_4_l, .bit_4_at_hl, .bit_4_a,
   .bit_5_b, .bit_5_c, .bit_5_d, .bit_5_e, .bit_5_h, .bit_5_l, .bit_5_at_hl, .bit_5_a]

/-- Sub-opcodes 0x70 to 0x7F. -/
def cbRow7 : List Instr :=
  [.bit_6_b, .bit_6_c, .bit_6_d, .bit_6_e, .bit_6_h, .bit_6_l, .bit_6_at_hl, .bit_6_a,
   .bit_7_b, .bit_7_c, .bit_7_d, .bit_7_e, .bit_7_h, .bit_7_l, .bit_7_at_hl, .bit_7_a]

/-- Sub-opcodes 0x80 to 0x8F. -/
def cbRow8 : List Instr :=
  [.res_0_b, .res_0_c, .res_0_d, .res_0_e, .res_0_h, .res_0_l, .res_0_at_hl, .res_0_a,
   .res_1_b, .res_1_c, .res_1_d, .res_1_e, .res_1_h, .res_1_l, .res_1_at_hl, .res_1_a]

/-- Sub-opcodes 0x90 to 0x9F. -/
def cbRow9 : List Instr :=
  [.res_2_b, .res_2_c, .res_2_d, .res_2_e, .res_2_h, .res_2_l, .res_2_at_hl, .res_2_a,
   .res_3_b, .res_3_c, .res_3_d, .res_3_e, .res_3_h, .res_3_l, .res_3_at_hl, .res_3_a]

/-- Sub-opcodes 0xA0 to 0xAF. -/
def cbRowA : List Instr :=
  [.res_4_b, .res_4_c, .res_4_d, .res_4_e, .res_4_h, .res_4_l, .res_4_at_hl, .res_4_a,
   .res_5_b, .res_5_c, .res_5_d, .res_5_e, .res_5_h, .res_5_l, .res_5_at_hl, .res_5_a]

/-- Sub-opcodes 0xB0 to 0xBF. -/
def cbRowB : List Instr :=
  [.res_6_b, .res_6_c, .res_6_d, .res_6_e, .res_6_h, .res_6_l, .res_6_at_hl, .res_6_a,
   .res_7_b, .res_7_c, .res_7_d, .res_7_e, .res_7_h, .res_7_l, .res_7_at_hl, .res_7_a]

/-- Sub-opcodes 0xC0 to 0xCF. -/
def cbRowC : List Instr :=
  [.set_0_b, .set_0_c, .set_0_d, .set_0_e, .set_0_h, .set_0_l, .set_0_at_hl, .set_0_a,
   .set_1_b, .set_1_c, .set_1_d, .set_1_e, .set_1_h, .set_1_l, .set_1_at_hl, .set_1_a]

/-- Sub-opcodes 0xD0 to 0xDF. -/
def cbRowD : List Instr :=
  [.set_2_b, .set_2_c, .set_2_d, .set_2_e, .set_2_h, .set_2_l, .set_2_at_hl, .set_2_a,
   .set_3_b, .set_3_c, .set_3_d, .set_3_e, .set_3_h, .set_3_l, .set_3_at_hl, .set_3_a]

/-- Sub-opcodes 0xE0 to 0xEF. -/
def cbRowE : List Instr :=
  [.set_4_b, .set_4_c, .set_4_d, .set_4_e, .set_4_h, .set_4_l, .set_4_at_hl, .set_4_a,
   .set_5_b, .set_5_c, .set_5_d, .set_5_e, .set_5_h, .set_5_l, .set_5_at_hl, .set_5_a]

/-- Sub-opcodes 0xF0 to 0xFF. -/
def cbRowF : List Instr :=
  [.set_6_b, .set_6_c, .set_6_d, .set_6_e, .set_6_h, .set_6_l, .set_6_at_hl, .set_6_a,
   .set_7_b, .set_7_c, .set_7_d, .set_7_e, .set_7_h, .set_7_l, .set_7_at_hl, .set_7_a]

/-- The CB sub-table (R111). -/
def cbTable : List Instr :=
  cbRow0 ++ cbRow1 ++ cbRow2 ++ cbRow3 ++ cbRow4 ++ cbRow5 ++ cbRow6 ++ cbRow7
  ++ cbRow8 ++ cbRow9 ++ cbRowA ++ cbRowB ++ cbRowC ++ cbRowD ++ cbRowE ++ cbRowF

/-- The primary table's entry for an opcode byte (the table has one for each of the 256). -/
def primaryEntry (op : Byte) : Entry := primaryTable.getD op.toNat (.bare .nop)

/-- The sub-table's instruction for a sub-opcode (the table has one for each of the 256). -/
def cbEntry (sub : Byte) : Instr := cbTable.getD sub.toNat .nop

/-- The prefix byte (R111). -/
def cbByte : Byte := 0xCB

/-- The opcodes one byte follows (R112), the prefix and STOP among them. -/
def twoByteOpcodes : List Byte :=
  [0x06, 0x0E, 0x16, 0x1E, 0x26, 0x2E, 0x36, 0x3E] ++ [0xC6, 0xCE, 0xD6, 0xDE, 0xE6, 0xEE, 0xF6, 0xFE]
  ++ [0x18, 0x20, 0x28, 0x30, 0x38] ++ [0xE0, 0xF0] ++ [0xE8, 0xF8] ++ [0xCB] ++ [0x10]

/-- The opcodes two bytes follow (R112). -/
def threeByteOpcodes : List Byte :=
  [0x01, 0x11, 0x21, 0x31] ++ [0x08] ++ [0xC2, 0xC3, 0xCA, 0xD2, 0xDA] ++ [0xC4, 0xCC, 0xCD, 0xD4, 0xDC] ++ [0xEA, 0xFA]

/-- The length R112 gives an instruction by its first byte. (An illegal opcode is the one byte the core fetches.) -/
def opcodeLength (op : Byte) : Nat :=
  if twoByteOpcodes.contains op then 2 else if threeByteOpcodes.contains op then 3 else 1

/-- The length of the instruction a key selects: every CB-prefixed instruction is 2 bytes (R112). -/
def Key.length : Key → Nat
  | .primary op => opcodeLength op
  | .cb _ => 2

/-- Why bytes decode to no instruction: the only reason is that the input ends too early. An illegal opcode decodes to its
own row of the table, whose meaning is the fatal condition. -/
inductive DecodeError where
  /-- The input is empty. -/
  | noOpcode
  /-- The sub-opcode after 0xCB is missing. -/
  | noSubOpcode
  /-- An operand byte is missing. -/
  | noOperand
deriving DecidableEq, Repr

/-- The first instruction of a list of bytes, lowest address first, and the bytes after it. -/
def decode : List Byte → Except DecodeError (Instr × List Byte)
  | [] => .error .noOpcode
  | op :: rest =>
    if op = cbByte then
      match rest with
      | [] => .error .noSubOpcode
      | sub :: rest => .ok (cbEntry sub, rest)
    else
      match primaryEntry op with
      | .bare i => .ok (i, rest)
      | .byte f =>
        match rest with
        | [] => .error .noOperand
        | v :: rest => .ok (f v, rest)
      | .word f =>
        match rest with
        | lo :: hi :: rest => .ok (f (wordOf hi lo), rest)
        | _ => .error .noOperand

/-- The two operand bytes of a 16-bit operand, the low byte first (R107). -/
def wordBytes (w : Word) : List Byte := [loByte w, hiByte w]

/-- The bytes of an instruction, lowest address first, written from the encodings of spec/opcode_table.json. -/
def encode : Instr → List Byte
  | .nop => [0x00]
  | .ld_bc_d16 d16 => [0x01] ++ wordBytes d16
  | .ld_at_bc_a => [0x02]
  | .inc_bc => [0x03]
  | .inc_b => [0x04]
  | .dec_b => [0x05]
  | .ld_b_d8 d8 => [0x06, d8]
  | .rlca => [0x07]
  | .ld_at_a16_sp a16 => [0x08] ++ wordBytes a16
  | .add_hl_bc => [0x09]
  | .ld_a_at_bc => [0x0A]
  | .dec_bc => [0x0B]
  | .inc_c => [0x0C]
  | .dec_c => [0x0D]
  | .ld_c_d8 d8 => [0x0E, d8]
  | .rrca => [0x0F]
  | .stop x => [0x10, x]
  | .ld_de_d16 d16 => [0x11] ++ wordBytes d16
  | .ld_at_de_a => [0x12]
  | .inc_de => [0x13]
  | .inc_d => [0x14]
  | .dec_d => [0x15]
  | .ld_d_d8 d8 => [0x16, d8]
  | .rla => [0x17]
  | .jr_e8 e8 => [0x18, e8]
  | .add_hl_de => [0x19]
  | .ld_a_at_de => [0x1A]
  | .dec_de => [0x1B]
  | .inc_e => [0x1C]
  | .dec_e => [0x1D]
  | .ld_e_d8 d8 => [0x1E, d8]
  | .rra => [0x1F]
  | .jr_nz_e8 e8 => [0x20, e8]
  | .ld_hl_d16 d16 => [0x21] ++ wordBytes d16
  | .ld_at_hl_inc_a => [0x22]
  | .inc_hl => [0x23]
  | .inc_h => [0x24]
  | .dec_h => [0x25]
  | .ld_h_d8 d8 => [0x26, d8]
  | .daa => [0x27]
  | .jr_z_e8 e8 => [0x28, e8]
  | .add_hl_hl => [0x29]
  | .ld_a_at_hl_inc => [0x2A]
  | .dec_hl => [0x2B]
  | .inc_l => [0x2C]
  | .dec_l => [0x2D]
  | .ld_l_d8 d8 => [0x2E, d8]
  | .cpl => [0x2F]
  | .jr_nc_e8 e8 => [0x30, e8]
  | .ld_sp_d16 d16 => [0x31] ++ wordBytes d16
  | .ld_at_hl_dec_a => [0x32]
  | .inc_sp => [0x33]
  | .inc_at_hl => [0x34]
  | .dec_at_hl => [0x35]
  | .ld_at_hl_d8 d8 => [0x36, d8]
  | .scf => [0x37]
  | .jr_c_e8 e8 => [0x38, e8]
  | .add_hl_sp => [0x39]
  | .ld_a_at_hl_dec => [0x3A]
  | .dec_sp => [0x3B]
  | .inc_a => [0x3C]
  | .dec_a => [0x3D]
  | .ld_a_d8 d8 => [0x3E, d8]
  | .ccf => [0x3F]
  | .ld_b_b => [0x40]
  | .ld_b_c => [0x41]
  | .ld_b_d => [0x42]
  | .ld_b_e => [0x43]
  | .ld_b_h => [0x44]
  | .ld_b_l => [0x45]
  | .ld_b_at_hl => [0x46]
  | .ld_b_a => [0x47]
  | .ld_c_b => [0x48]
  | .ld_c_c => [0x49]
  | .ld_c_d => [0x4A]
  | .ld_c_e => [0x4B]
  | .ld_c_h => [0x4C]
  | .ld_c_l => [0x4D]
  | .ld_c_at_hl => [0x4E]
  | .ld_c_a => [0x4F]
  | .ld_d_b => [0x50]
  | .ld_d_c => [0x51]
  | .ld_d_d => [0x52]
  | .ld_d_e => [0x53]
  | .ld_d_h => [0x54]
  | .ld_d_l => [0x55]
  | .ld_d_at_hl => [0x56]
  | .ld_d_a => [0x57]
  | .ld_e_b => [0x58]
  | .ld_e_c => [0x59]
  | .ld_e_d => [0x5A]
  | .ld_e_e => [0x5B]
  | .ld_e_h => [0x5C]
  | .ld_e_l => [0x5D]
  | .ld_e_at_hl => [0x5E]
  | .ld_e_a => [0x5F]
  | .ld_h_b => [0x60]
  | .ld_h_c => [0x61]
  | .ld_h_d => [0x62]
  | .ld_h_e => [0x63]
  | .ld_h_h => [0x64]
  | .ld_h_l => [0x65]
  | .ld_h_at_hl => [0x66]
  | .ld_h_a => [0x67]
  | .ld_l_b => [0x68]
  | .ld_l_c => [0x69]
  | .ld_l_d => [0x6A]
  | .ld_l_e => [0x6B]
  | .ld_l_h => [0x6C]
  | .ld_l_l => [0x6D]
  | .ld_l_at_hl => [0x6E]
  | .ld_l_a => [0x6F]
  | .ld_at_hl_b => [0x70]
  | .ld_at_hl_c => [0x71]
  | .ld_at_hl_d => [0x72]
  | .ld_at_hl_e => [0x73]
  | .ld_at_hl_h => [0x74]
  | .ld_at_hl_l => [0x75]
  | .halt => [0x76]
  | .ld_at_hl_a => [0x77]
  | .ld_a_b => [0x78]
  | .ld_a_c => [0x79]
  | .ld_a_d => [0x7A]
  | .ld_a_e => [0x7B]
  | .ld_a_h => [0x7C]
  | .ld_a_l => [0x7D]
  | .ld_a_at_hl => [0x7E]
  | .ld_a_a => [0x7F]
  | .add_a_b => [0x80]
  | .add_a_c => [0x81]
  | .add_a_d => [0x82]
  | .add_a_e => [0x83]
  | .add_a_h => [0x84]
  | .add_a_l => [0x85]
  | .add_a_at_hl => [0x86]
  | .add_a_a => [0x87]
  | .adc_a_b => [0x88]
  | .adc_a_c => [0x89]
  | .adc_a_d => [0x8A]
  | .adc_a_e => [0x8B]
  | .adc_a_h => [0x8C]
  | .adc_a_l => [0x8D]
  | .adc_a_at_hl => [0x8E]
  | .adc_a_a => [0x8F]
  | .sub_b => [0x90]
  | .sub_c => [0x91]
  | .sub_d => [0x92]
  | .sub_e => [0x93]
  | .sub_h => [0x94]
  | .sub_l => [0x95]
  | .sub_at_hl => [0x96]
  | .sub_a => [0x97]
  | .sbc_a_b => [0x98]
  | .sbc_a_c => [0x99]
  | .sbc_a_d => [0x9A]
  | .sbc_a_e => [0x9B]
  | .sbc_a_h => [0x9C]
  | .sbc_a_l => [0x9D]
  | .sbc_a_at_hl => [0x9E]
  | .sbc_a_a => [0x9F]
  | .and_b => [0xA0]
  | .and_c => [0xA1]
  | .and_d => [0xA2]
  | .and_e => [0xA3]
  | .and_h => [0xA4]
  | .and_l => [0xA5]
  | .and_at_hl => [0xA6]
  | .and_a => [0xA7]
  | .xor_b => [0xA8]
  | .xor_c => [0xA9]
  | .xor_d => [0xAA]
  | .xor_e => [0xAB]
  | .xor_h => [0xAC]
  | .xor_l => [0xAD]
  | .xor_at_hl => [0xAE]
  | .xor_a => [0xAF]
  | .or_b => [0xB0]
  | .or_c => [0xB1]
  | .or_d => [0xB2]
  | .or_e => [0xB3]
  | .or_h => [0xB4]
  | .or_l => [0xB5]
  | .or_at_hl => [0xB6]
  | .or_a => [0xB7]
  | .cp_b => [0xB8]
  | .cp_c => [0xB9]
  | .cp_d => [0xBA]
  | .cp_e => [0xBB]
  | .cp_h => [0xBC]
  | .cp_l => [0xBD]
  | .cp_at_hl => [0xBE]
  | .cp_a => [0xBF]
  | .ret_nz => [0xC0]
  | .pop_bc => [0xC1]
  | .jp_nz_a16 a16 => [0xC2] ++ wordBytes a16
  | .jp_a16 a16 => [0xC3] ++ wordBytes a16
  | .call_nz_a16 a16 => [0xC4] ++ wordBytes a16
  | .push_bc => [0xC5]
  | .add_a_d8 d8 => [0xC6, d8]
  | .rst_00 => [0xC7]
  | .ret_z => [0xC8]
  | .ret => [0xC9]
  | .jp_z_a16 a16 => [0xCA] ++ wordBytes a16
  | .cb_prefix sub => [0xCB, sub]
  | .call_z_a16 a16 => [0xCC] ++ wordBytes a16
  | .call_a16 a16 => [0xCD] ++ wordBytes a16
  | .adc_a_d8 d8 => [0xCE, d8]
  | .rst_08 => [0xCF]
  | .ret_nc => [0xD0]
  | .pop_de => [0xD1]
  | .jp_nc_a16 a16 => [0xD2] ++ wordBytes a16
  | .illegal_d3 => [0xD3]
  | .call_nc_a16 a16 => [0xD4] ++ wordBytes a16
  | .push_de => [0xD5]
  | .sub_d8 d8 => [0xD6, d8]
  | .rst_10 => [0xD7]
  | .ret_c => [0xD8]
  | .reti => [0xD9]
  | .jp_c_a16 a16 => [0xDA] ++ wordBytes a16
  | .illegal_db => [0xDB]
  | .call_c_a16 a16 => [0xDC] ++ wordBytes a16
  | .illegal_dd => [0xDD]
  | .sbc_a_d8 d8 => [0xDE, d8]
  | .rst_18 => [0xDF]
  | .ldh_at_a8_a a8 => [0xE0, a8]
  | .pop_hl => [0xE1]
  | .ld_at_c_a => [0xE2]
  | .illegal_e3 => [0xE3]
  | .illegal_e4 => [0xE4]
  | .push_hl => [0xE5]
  | .and_d8 d8 => [0xE6, d8]
  | .rst_20 => [0xE7]
  | .add_sp_e8 e8 => [0xE8, e8]
  | .jp_hl => [0xE9]
  | .ld_at_a16_a a16 => [0xEA] ++ wordBytes a16
  | .illegal_eb => [0xEB]
  | .illegal_ec => [0xEC]
  | .illegal_ed => [0xED]
  | .xor_d8 d8 => [0xEE, d8]
  | .rst_28 => [0xEF]
  | .ldh_a_at_a8 a8 => [0xF0, a8]
  | .pop_af => [0xF1]
  | .ld_a_at_c => [0xF2]
  | .di => [0xF3]
  | .illegal_f4 => [0xF4]
  | .push_af => [0xF5]
  | .or_d8 d8 => [0xF6, d8]
  | .rst_30 => [0xF7]
  | .ld_hl_sp_e8 e8 => [0xF8, e8]
  | .ld_sp_hl => [0xF9]
  | .ld_a_at_a16 a16 => [0xFA] ++ wordBytes a16
  | .ei => [0xFB]
  | .illegal_fc => [0xFC]
  | .illegal_fd => [0xFD]
  | .cp_d8 d8 => [0xFE, d8]
  | .rst_38 => [0xFF]
  | .rlc_b => [0xCB, 0x00]
  | .rlc_c => [0xCB, 0x01]
  | .rlc_d => [0xCB, 0x02]
  | .rlc_e => [0xCB, 0x03]
  | .rlc_h => [0xCB, 0x04]
  | .rlc_l => [0xCB, 0x05]
  | .rlc_at_hl => [0xCB, 0x06]
  | .rlc_a => [0xCB, 0x07]
  | .rrc_b => [0xCB, 0x08]
  | .rrc_c => [0xCB, 0x09]
  | .rrc_d => [0xCB, 0x0A]
  | .rrc_e => [0xCB, 0x0B]
  | .rrc_h => [0xCB, 0x0C]
  | .rrc_l => [0xCB, 0x0D]
  | .rrc_at_hl => [0xCB, 0x0E]
  | .rrc_a => [0xCB, 0x0F]
  | .rl_b => [0xCB, 0x10]
  | .rl_c => [0xCB, 0x11]
  | .rl_d => [0xCB, 0x12]
  | .rl_e => [0xCB, 0x13]
  | .rl_h => [0xCB, 0x14]
  | .rl_l => [0xCB, 0x15]
  | .rl_at_hl => [0xCB, 0x16]
  | .rl_a => [0xCB, 0x17]
  | .rr_b => [0xCB, 0x18]
  | .rr_c => [0xCB, 0x19]
  | .rr_d => [0xCB, 0x1A]
  | .rr_e => [0xCB, 0x1B]
  | .rr_h => [0xCB, 0x1C]
  | .rr_l => [0xCB, 0x1D]
  | .rr_at_hl => [0xCB, 0x1E]
  | .rr_a => [0xCB, 0x1F]
  | .sla_b => [0xCB, 0x20]
  | .sla_c => [0xCB, 0x21]
  | .sla_d => [0xCB, 0x22]
  | .sla_e => [0xCB, 0x23]
  | .sla_h => [0xCB, 0x24]
  | .sla_l => [0xCB, 0x25]
  | .sla_at_hl => [0xCB, 0x26]
  | .sla_a => [0xCB, 0x27]
  | .sra_b => [0xCB, 0x28]
  | .sra_c => [0xCB, 0x29]
  | .sra_d => [0xCB, 0x2A]
  | .sra_e => [0xCB, 0x2B]
  | .sra_h => [0xCB, 0x2C]
  | .sra_l => [0xCB, 0x2D]
  | .sra_at_hl => [0xCB, 0x2E]
  | .sra_a => [0xCB, 0x2F]
  | .swap_b => [0xCB, 0x30]
  | .swap_c => [0xCB, 0x31]
  | .swap_d => [0xCB, 0x32]
  | .swap_e => [0xCB, 0x33]
  | .swap_h => [0xCB, 0x34]
  | .swap_l => [0xCB, 0x35]
  | .swap_at_hl => [0xCB, 0x36]
  | .swap_a => [0xCB, 0x37]
  | .srl_b => [0xCB, 0x38]
  | .srl_c => [0xCB, 0x39]
  | .srl_d => [0xCB, 0x3A]
  | .srl_e => [0xCB, 0x3B]
  | .srl_h => [0xCB, 0x3C]
  | .srl_l => [0xCB, 0x3D]
  | .srl_at_hl => [0xCB, 0x3E]
  | .srl_a => [0xCB, 0x3F]
  | .bit_0_b => [0xCB, 0x40]
  | .bit_0_c => [0xCB, 0x41]
  | .bit_0_d => [0xCB, 0x42]
  | .bit_0_e => [0xCB, 0x43]
  | .bit_0_h => [0xCB, 0x44]
  | .bit_0_l => [0xCB, 0x45]
  | .bit_0_at_hl => [0xCB, 0x46]
  | .bit_0_a => [0xCB, 0x47]
  | .bit_1_b => [0xCB, 0x48]
  | .bit_1_c => [0xCB, 0x49]
  | .bit_1_d => [0xCB, 0x4A]
  | .bit_1_e => [0xCB, 0x4B]
  | .bit_1_h => [0xCB, 0x4C]
  | .bit_1_l => [0xCB, 0x4D]
  | .bit_1_at_hl => [0xCB, 0x4E]
  | .bit_1_a => [0xCB, 0x4F]
  | .bit_2_b => [0xCB, 0x50]
  | .bit_2_c => [0xCB, 0x51]
  | .bit_2_d => [0xCB, 0x52]
  | .bit_2_e => [0xCB, 0x53]
  | .bit_2_h => [0xCB, 0x54]
  | .bit_2_l => [0xCB, 0x55]
  | .bit_2_at_hl => [0xCB, 0x56]
  | .bit_2_a => [0xCB, 0x57]
  | .bit_3_b => [0xCB, 0x58]
  | .bit_3_c => [0xCB, 0x59]
  | .bit_3_d => [0xCB, 0x5A]
  | .bit_3_e => [0xCB, 0x5B]
  | .bit_3_h => [0xCB, 0x5C]
  | .bit_3_l => [0xCB, 0x5D]
  | .bit_3_at_hl => [0xCB, 0x5E]
  | .bit_3_a => [0xCB, 0x5F]
  | .bit_4_b => [0xCB, 0x60]
  | .bit_4_c => [0xCB, 0x61]
  | .bit_4_d => [0xCB, 0x62]
  | .bit_4_e => [0xCB, 0x63]
  | .bit_4_h => [0xCB, 0x64]
  | .bit_4_l => [0xCB, 0x65]
  | .bit_4_at_hl => [0xCB, 0x66]
  | .bit_4_a => [0xCB, 0x67]
  | .bit_5_b => [0xCB, 0x68]
  | .bit_5_c => [0xCB, 0x69]
  | .bit_5_d => [0xCB, 0x6A]
  | .bit_5_e => [0xCB, 0x6B]
  | .bit_5_h => [0xCB, 0x6C]
  | .bit_5_l => [0xCB, 0x6D]
  | .bit_5_at_hl => [0xCB, 0x6E]
  | .bit_5_a => [0xCB, 0x6F]
  | .bit_6_b => [0xCB, 0x70]
  | .bit_6_c => [0xCB, 0x71]
  | .bit_6_d => [0xCB, 0x72]
  | .bit_6_e => [0xCB, 0x73]
  | .bit_6_h => [0xCB, 0x74]
  | .bit_6_l => [0xCB, 0x75]
  | .bit_6_at_hl => [0xCB, 0x76]
  | .bit_6_a => [0xCB, 0x77]
  | .bit_7_b => [0xCB, 0x78]
  | .bit_7_c => [0xCB, 0x79]
  | .bit_7_d => [0xCB, 0x7A]
  | .bit_7_e => [0xCB, 0x7B]
  | .bit_7_h => [0xCB, 0x7C]
  | .bit_7_l => [0xCB, 0x7D]
  | .bit_7_at_hl => [0xCB, 0x7E]
  | .bit_7_a => [0xCB, 0x7F]
  | .res_0_b => [0xCB, 0x80]
  | .res_0_c => [0xCB, 0x81]
  | .res_0_d => [0xCB, 0x82]
  | .res_0_e => [0xCB, 0x83]
  | .res_0_h => [0xCB, 0x84]
  | .res_0_l => [0xCB, 0x85]
  | .res_0_at_hl => [0xCB, 0x86]
  | .res_0_a => [0xCB, 0x87]
  | .res_1_b => [0xCB, 0x88]
  | .res_1_c => [0xCB, 0x89]
  | .res_1_d => [0xCB, 0x8A]
  | .res_1_e => [0xCB, 0x8B]
  | .res_1_h => [0xCB, 0x8C]
  | .res_1_l => [0xCB, 0x8D]
  | .res_1_at_hl => [0xCB, 0x8E]
  | .res_1_a => [0xCB, 0x8F]
  | .res_2_b => [0xCB, 0x90]
  | .res_2_c => [0xCB, 0x91]
  | .res_2_d => [0xCB, 0x92]
  | .res_2_e => [0xCB, 0x93]
  | .res_2_h => [0xCB, 0x94]
  | .res_2_l => [0xCB, 0x95]
  | .res_2_at_hl => [0xCB, 0x96]
  | .res_2_a => [0xCB, 0x97]
  | .res_3_b => [0xCB, 0x98]
  | .res_3_c => [0xCB, 0x99]
  | .res_3_d => [0xCB, 0x9A]
  | .res_3_e => [0xCB, 0x9B]
  | .res_3_h => [0xCB, 0x9C]
  | .res_3_l => [0xCB, 0x9D]
  | .res_3_at_hl => [0xCB, 0x9E]
  | .res_3_a => [0xCB, 0x9F]
  | .res_4_b => [0xCB, 0xA0]
  | .res_4_c => [0xCB, 0xA1]
  | .res_4_d => [0xCB, 0xA2]
  | .res_4_e => [0xCB, 0xA3]
  | .res_4_h => [0xCB, 0xA4]
  | .res_4_l => [0xCB, 0xA5]
  | .res_4_at_hl => [0xCB, 0xA6]
  | .res_4_a => [0xCB, 0xA7]
  | .res_5_b => [0xCB, 0xA8]
  | .res_5_c => [0xCB, 0xA9]
  | .res_5_d => [0xCB, 0xAA]
  | .res_5_e => [0xCB, 0xAB]
  | .res_5_h => [0xCB, 0xAC]
  | .res_5_l => [0xCB, 0xAD]
  | .res_5_at_hl => [0xCB, 0xAE]
  | .res_5_a => [0xCB, 0xAF]
  | .res_6_b => [0xCB, 0xB0]
  | .res_6_c => [0xCB, 0xB1]
  | .res_6_d => [0xCB, 0xB2]
  | .res_6_e => [0xCB, 0xB3]
  | .res_6_h => [0xCB, 0xB4]
  | .res_6_l => [0xCB, 0xB5]
  | .res_6_at_hl => [0xCB, 0xB6]
  | .res_6_a => [0xCB, 0xB7]
  | .res_7_b => [0xCB, 0xB8]
  | .res_7_c => [0xCB, 0xB9]
  | .res_7_d => [0xCB, 0xBA]
  | .res_7_e => [0xCB, 0xBB]
  | .res_7_h => [0xCB, 0xBC]
  | .res_7_l => [0xCB, 0xBD]
  | .res_7_at_hl => [0xCB, 0xBE]
  | .res_7_a => [0xCB, 0xBF]
  | .set_0_b => [0xCB, 0xC0]
  | .set_0_c => [0xCB, 0xC1]
  | .set_0_d => [0xCB, 0xC2]
  | .set_0_e => [0xCB, 0xC3]
  | .set_0_h => [0xCB, 0xC4]
  | .set_0_l => [0xCB, 0xC5]
  | .set_0_at_hl => [0xCB, 0xC6]
  | .set_0_a => [0xCB, 0xC7]
  | .set_1_b => [0xCB, 0xC8]
  | .set_1_c => [0xCB, 0xC9]
  | .set_1_d => [0xCB, 0xCA]
  | .set_1_e => [0xCB, 0xCB]
  | .set_1_h => [0xCB, 0xCC]
  | .set_1_l => [0xCB, 0xCD]
  | .set_1_at_hl => [0xCB, 0xCE]
  | .set_1_a => [0xCB, 0xCF]
  | .set_2_b => [0xCB, 0xD0]
  | .set_2_c => [0xCB, 0xD1]
  | .set_2_d => [0xCB, 0xD2]
  | .set_2_e => [0xCB, 0xD3]
  | .set_2_h => [0xCB, 0xD4]
  | .set_2_l => [0xCB, 0xD5]
  | .set_2_at_hl => [0xCB, 0xD6]
  | .set_2_a => [0xCB, 0xD7]
  | .set_3_b => [0xCB, 0xD8]
  | .set_3_c => [0xCB, 0xD9]
  | .set_3_d => [0xCB, 0xDA]
  | .set_3_e => [0xCB, 0xDB]
  | .set_3_h => [0xCB, 0xDC]
  | .set_3_l => [0xCB, 0xDD]
  | .set_3_at_hl => [0xCB, 0xDE]
  | .set_3_a => [0xCB, 0xDF]
  | .set_4_b => [0xCB, 0xE0]
  | .set_4_c => [0xCB, 0xE1]
  | .set_4_d => [0xCB, 0xE2]
  | .set_4_e => [0xCB, 0xE3]
  | .set_4_h => [0xCB, 0xE4]
  | .set_4_l => [0xCB, 0xE5]
  | .set_4_at_hl => [0xCB, 0xE6]
  | .set_4_a => [0xCB, 0xE7]
  | .set_5_b => [0xCB, 0xE8]
  | .set_5_c => [0xCB, 0xE9]
  | .set_5_d => [0xCB, 0xEA]
  | .set_5_e => [0xCB, 0xEB]
  | .set_5_h => [0xCB, 0xEC]
  | .set_5_l => [0xCB, 0xED]
  | .set_5_at_hl => [0xCB, 0xEE]
  | .set_5_a => [0xCB, 0xEF]
  | .set_6_b => [0xCB, 0xF0]
  | .set_6_c => [0xCB, 0xF1]
  | .set_6_d => [0xCB, 0xF2]
  | .set_6_e => [0xCB, 0xF3]
  | .set_6_h => [0xCB, 0xF4]
  | .set_6_l => [0xCB, 0xF5]
  | .set_6_at_hl => [0xCB, 0xF6]
  | .set_6_a => [0xCB, 0xF7]
  | .set_7_b => [0xCB, 0xF8]
  | .set_7_c => [0xCB, 0xF9]
  | .set_7_d => [0xCB, 0xFA]
  | .set_7_e => [0xCB, 0xFB]
  | .set_7_h => [0xCB, 0xFC]
  | .set_7_l => [0xCB, 0xFD]
  | .set_7_at_hl => [0xCB, 0xFE]
  | .set_7_a => [0xCB, 0xFF]

/-- The key an instruction's bytes begin with (spec/40_engine.md R133). -/
def Instr.key (i : Instr) : Key :=
  match encode i with
  | op :: sub :: _ => if op = cbByte then .cb sub else .primary op
  | op :: _ => .primary op
  | [] => .primary 0

/-- The bytes of an instruction whose number in spec/opcode_table.json is `w`, then zeros up to the longest instruction
(3 bytes). The table writes the two bytes of a CB row as one number with 0xCB in the high byte; every other row's number has
the first byte in its low bits (notes/assumptions/9.md). -/
def tableBytes (nbits w : Nat) : List Byte :=
  if nbits = 16 ∧ w / 256 % 256 = 0xCB then
    [cbByte, BitVec.ofNat 8 w, 0]
  else
    let v := w % 2 ^ nbits
    [BitVec.ofNat 8 v, BitVec.ofNat 8 (v / 256), BitVec.ofNat 8 (v / 65536)]

/-- The instruction the decoder reads from the bytes of `tableBytes`. -/
def decodeTableWord (nbits w : Nat) : Option Instr :=
  match decode (tableBytes nbits w) with
  | .ok (i, _) => some i
  | .error _ => none

end Sys2Proof
end

