-- ==== Sys2Proof/Machine/Costs.lean ====
section
/-! DEFINITION. IMPLEMENTED and CYCLE_COST: which keys of the opcode table have an entry (spec/30_encoding.md R114, R115)
and what each costs (spec/70_reset_and_hazards.md R410). -/

namespace Sys2Proof

/-- The 11 primary opcodes that assign no instruction (R114). -/
def illegalOpcodes : List Byte :=
  [0xD3, 0xDB, 0xDD, 0xE3, 0xE4, 0xEB, 0xEC, 0xED, 0xF4, 0xFC, 0xFD]

/-- The default value of IMPLEMENTED (spec/00_scope.md R8): every primary opcode but the 11 illegal ones, every CB key. -/
def Key.legal : Key → Bool
  | .primary op => !illegalOpcodes.contains op
  | .cb _ => true

/-- Whether a key is in IMPLEMENTED: the default set less the keys the parameters take out (R115). -/
def Params.implements (p : Params) (k : Key) : Bool :=
  k.legal && !p.removed.contains k

/-- An entry whose cost does not depend on a condition. -/
def flat (n : Nat) : Nat × Nat := (n, n)

/-- Rows 0x to 3x of the table of R410, as (taken, not taken). -/
def primaryCosts0 : List (Nat × Nat) :=
  [4, 12, 8, 8, 4, 4, 8, 4, 20, 8, 8, 8, 4, 4, 8, 4].map flat
  ++ [4, 12, 8, 8, 4, 4, 8, 4, 12, 8, 8, 8, 4, 4, 8, 4].map flat
  ++ [(12, 8)] ++ [12, 8, 8, 4, 4, 8, 4].map flat ++ [(12, 8)] ++ [8, 8, 8, 4, 4, 8, 4].map flat
  ++ [(12, 8)] ++ [12, 8, 8, 12, 12, 12, 4].map flat ++ [(12, 8)] ++ [8, 8, 8, 4, 4, 8, 4].map flat

/-- A row of R410 that repeats 4 4 4 4 4 4 8 4. -/
def registerRow : List (Nat × Nat) :=
  [4, 4, 4, 4, 4, 4, 8, 4, 4, 4, 4, 4, 4, 4, 8, 4].map flat

/-- Rows 4x to Bx of the table of R410. -/
def primaryCosts1 : List (Nat × Nat) :=
  registerRow ++ registerRow ++ registerRow
  ++ [8, 8, 8, 8, 8, 8, 4, 8, 4, 4, 4, 4, 4, 4, 8, 4].map flat
  ++ registerRow ++ registerRow ++ registerRow ++ registerRow

/-- Rows Cx to Fx of the table of R410. An illegal opcode and the prefix byte have no cost of their own: 0 stands there, and
no step adds it. -/
def primaryCosts2 : List (Nat × Nat) :=
  [(20, 8), flat 12, (16, 12), flat 16, (24, 12), flat 16, flat 8, flat 16]
  ++ [(20, 8), flat 16, (16, 12), flat 0, (24, 12), flat 24, flat 8, flat 16]
  ++ [(20, 8), flat 12, (16, 12), flat 0, (24, 12), flat 16, flat 8, flat 16]
  ++ [(20, 8), flat 16, (16, 12), flat 0, (24, 12), flat 0, flat 8, flat 16]
  ++ [12, 12, 8, 0, 0, 16, 8, 16, 16, 4, 16, 0, 0, 0, 8, 16].map flat
  ++ [12, 12, 8, 4, 0, 16, 8, 16, 12, 8, 16, 4, 0, 0, 8, 16].map flat

/-- The primary table of R410. -/
def primaryCosts : List (Nat × Nat) := primaryCosts0 ++ primaryCosts1 ++ primaryCosts2

/-- The CB table of R410: 8 for a register operand; for (HL), 12 for BIT and 16 for every other operation. -/
def cbCost (sub : Byte) : Nat :=
  if fieldZ sub ≠ 6 then 8 else if fieldX sub = 1 then 12 else 16

/-- The default value of CYCLE_COST, as (taken, not taken). -/
def Key.defaultCost : Key → Nat × Nat
  | .primary op => primaryCosts.getD op.toNat (0, 0)
  | .cb sub => flat (cbCost sub)

/-- CYCLE_COST(key, taken) (spec/40_engine.md R136): the entry the parameters give, else the default table's. -/
def Params.cost (p : Params) (k : Key) (taken : Bool) : Nat :=
  let entry := match p.costs.find? (fun e => e.key == k) with
    | some e => (e.taken, e.notTaken)
    | none => k.defaultCost
  if taken then entry.1 else entry.2

end Sys2Proof
end

