-- ==== Sys2Proof/Machine/State.lean ====
section
/-! DEFINITION. The state of the core as plain data (spec/10_state.md), the reasons a step can stop, and the state right
after construction (spec/70_reset_and_hazards.md R402). -/

namespace Sys2Proof.Machine

/-- The fault record (spec/10_state.md R44, spec/60_exceptions.md R370). -/
inductive FaultRecord where
  /-- The key at `address` has no table entry: `byte` is the opcode, or the sub-opcode when `prefixed`. -/
  | unimplementedOpcode (byte : Byte) (address : Word) (prefixed : Bool)
  /-- A memory access at or above MEM_SIZE. -/
  | outOfRange (address : Word)
deriving DecidableEq, Repr

/-- Which instruction put the core to sleep (spec/10_state.md R43). -/
inductive SleepKind where
  | halt
  | stop
deriving DecidableEq, Repr

/-- The run state (spec/10_state.md R43). -/
inductive RunState where
  | running
  | sleeping (kind : SleepKind)
  | halted (reason : FaultRecord)
deriving DecidableEq, Repr

/-- The interrupt vectors the injection port presents (spec/60_exceptions.md R378). -/
inductive IrqVector where
  | vblank
  | lcdStatus
  | timer
  | serial
  | joypad
deriving DecidableEq, Repr

/-- What the injection port presents at one step boundary (spec/60_exceptions.md R377). -/
inductive PortRequest where
  | none
  | irq (v : IrqVector)
  | wake
deriving DecidableEq, Repr

/-- Memory: the bytes that something has written, as (address, byte) pairs at strictly rising addresses. -/
abbrev Memory := List Host.Cell

/-- Everything the spec gives the machine. The names are those of spec/10_state.md's state summary. -/
structure State where
  /-- Accumulator. -/
  a : Byte
  /-- Flag register: Z = bit 7, N = bit 6, H = bit 5, C = bit 4, bits 3..0 always zero (R34). -/
  f : Byte
  b : Byte
  c : Byte
  d : Byte
  e : Byte
  h : Byte
  l : Byte
  /-- Stack pointer (R38). -/
  sp : Word
  /-- Program counter (R39). -/
  pc : Word
  /-- Interrupt-enable flag (R40). -/
  ime : Bool
  /-- Cycle accumulator (R41). -/
  cycles : Nat
  /-- Instructions executed (R42). -/
  icount : Nat
  /-- Run state, with the fault record when Halted (R43, R44). -/
  run : RunState
  /-- Memory behind the port (spec/20_memory.md R70). -/
  mem : Memory
  /-- The parameters of spec/00_scope.md R8; no step writes them. -/
  cfg : Params
  /-- What the injection port presents at the coming step boundaries, the next one first (notes/assumptions/5.md). -/
  port : List PortRequest
  /-- How many hook calls have been made: the counter of the free draws (notes/assumptions/4.md). -/
  hookCalls : Nat
deriving DecidableEq, Repr

/-- Why a step has no next state. -/
inductive Fault where
  /-- Raised by `step` alone, in a state whose run state is Halted: the core has no step from it (spec/40_engine.md R141).
  Safe: the model stops where the hardware stops (notes/assumptions/6.md). -/
  | halted (reason : FaultRecord)
deriving DecidableEq, Repr

/-- Why a step is refused. -/
inductive Refusal where
  /-- Raised by an arm of `exec` whose instruction has no meaning yet. No arm of this model raises it. Safe. -/
  | notModelled (mnemonic : String)
deriving DecidableEq, Repr

/-- The state after construction with the default parameters and nothing loaded (spec/70_reset_and_hazards.md R400, R402;
spec/10_state.md R47). `hookCalls` and `port` are the model's own fields (notes/assumptions/4.md, 5.md). -/
def State.reset : State where
  a := 0x01
  f := 0xB0
  b := 0x00
  c := 0x13
  d := 0x00
  e := 0xD8
  h := 0x01
  l := 0x4D
  sp := 0xFFFE
  pc := 0x0100
  ime := false
  cycles := 0
  icount := 0
  run := .running
  mem := []
  cfg := Params.default
  port := []
  hookCalls := 0

end Sys2Proof.Machine
end

