-- ==== Sys2Proof/Machine/Ops.lean ====
section
/-! DEFINITION. The named operations over memory, the port, the stack and the run state that every instruction is built
from: spec/20_memory.md, spec/40_engine.md (retiring an instruction, the hook, the frame check, the fatal conditions),
spec/41_stack_calls.md R160 to R163, spec/60_exceptions.md (the injected call, wake). -/

namespace Sys2Proof.Machine

/-! Memory as data. -/

/-- The byte listed for an address, if one is. -/
def Memory.lookup : Memory → Nat → Option Byte
  | [], _ => none
  | (x, v) :: m, a => if a = x then some v else Memory.lookup m a

/-- Lists a byte for an address, in the place of the one listed before. -/
def Memory.set : Memory → Nat → Byte → Memory
  | [], a, v => [(a, v)]
  | (x, w) :: m, a, v =>
    if a < x then (a, v) :: (x, w) :: m
    else if a = x then (a, v) :: m
    else (x, w) :: Memory.set m a v

/-- Addresses rise strictly from `low` and stay below 2^16. -/
def Memory.risingFrom : Nat → Memory → Bool
  | _, [] => true
  | low, (x, _) :: m => decide (low ≤ x) && decide (x < 0x10000) && Memory.risingFrom (x + 1) m

/-- The canonical form: strictly rising addresses below 2^16 (spec/20_memory.md R70). An unlisted address holds no byte in
the data, so no entry can repeat what an unlisted address holds (notes/assumptions/2.md). -/
def Memory.wf (m : Memory) : Bool := Memory.risingFrom 0 m

/-- What a byte that nothing has written reads as: MEM_INIT, a free value (spec/20_memory.md R81; notes/assumptions/2.md). -/
def unlistedByte (a : Nat) : Byte := Config.memInit a

/-! Whole-register updates. -/

/-- `SP <- v`. -/
def State.setSp (s : State) (v : Word) : State := { s with sp := v }

/-- `PC <- v`. -/
def State.setPc (s : State) (v : Word) : State := { s with pc := v }

/-- `IME <- b`. -/
def State.setIme (s : State) (b : Bool) : State := { s with ime := b }

/-- The run state is set. -/
def State.setRun (s : State) (r : RunState) : State := { s with run := r }

/-! The memory port. -/

/-- The result of an operation that makes memory accesses: a value, or the address of the first access that raised
OutOfRange (spec/20_memory.md R71, spec/40_engine.md R142). -/
abbrev Access := Except Word

/-- The byte stored at an address. -/
def State.byteAt (s : State) (a : Word) : Byte := (Memory.lookup s.mem a.toNat).getD (unlistedByte a.toNat)

/-- Whether the backing store has a byte at an address (R71). -/
def State.inRange (s : State) (a : Word) : Bool := decide (a.toNat < s.cfg.memSize)

/-- The state with a byte stored at an address. -/
def State.setByte (s : State) (a : Word) (v : Byte) : State := { s with mem := Memory.set s.mem a.toNat v }

/-- Bytes stored one after another from an address on, modulo 2^16. -/
def State.storeBytes (s : State) (a : Word) : List Byte → State
  | [] => s
  | v :: rest => (s.setByte a v).storeBytes (a + 1) rest

/-- `MemRead(addr, 1)` (R71). -/
def State.read8 (s : State) (a : Word) : Access Byte :=
  if s.inRange a then .ok (s.byteAt a) else .error a

/-- `MemWrite(addr, 1, v)` (R73). -/
def State.write8 (s : State) (a : Word) (v : Byte) : Access State :=
  if s.inRange a then .ok (s.setByte a v) else .error a

/-- `MemRead(addr, 2)` (R72): the low byte is read first, the second address wraps. -/
def State.read16 (s : State) (a : Word) : Access Word := do
  let lo ← s.read8 a
  let hi ← s.read8 (a + 1)
  return wordOf hi lo

/-- `MemWrite(addr, 2, v)` (R74). -/
def State.write16 (s : State) (a : Word) (v : Word) : Access State := do
  let t ← s.write8 a (loByte v)
  t.write8 (a + 1) (hiByte v)

/-- `read8_signed(addr)` (R75). -/
def State.read8Signed (s : State) (a : Word) : Access Int := do
  let v ← s.read8 a
  return signed8 v

/-- `Fetch8()` (spec/00_scope.md R12): the byte at PC, and PC advanced by one modulo 2^16. -/
def State.fetch8 (s : State) : Access (Byte × State) := do
  let v ← s.read8 s.pc
  return (v, s.setPc (s.pc + 1))

/-- `Fetch16()` (R12): two bytes, the low byte first. -/
def State.fetch16 (s : State) : Access (Word × State) := do
  let (lo, s) ← s.fetch8
  let (hi, s) ← s.fetch8
  return (wordOf hi lo, s)

/-! The stack (spec/41_stack_calls.md). -/

/-- `push8(b)` (R160): SP is decremented, then the byte is written at the new SP. -/
def State.push8 (s : State) (v : Byte) : Access State :=
  (s.setSp (s.sp - 1)).write8 (s.sp - 1) v

/-- `pop8()` (R161): the byte at SP is read, then SP is incremented. -/
def State.pop8 (s : State) : Access (Byte × State) := do
  let v ← s.read8 s.sp
  return (v, s.setSp (s.sp + 1))

/-- `push16(v)` (R162): the high byte, then the low byte. -/
def State.push16 (s : State) (v : Word) : Access State := do
  let t ← s.push8 (hiByte v)
  t.push8 (loByte v)

/-- `pop16()` (R163): the low byte, then the high byte. -/
def State.pop16 (s : State) : Access (Word × State) := do
  let (lo, s) ← s.pop8
  let (hi, s) ← s.pop8
  return (wordOf hi lo, s)

/-! Fatal conditions (spec/40_engine.md R140 to R142, spec/60_exceptions.md R373). -/

/-- Entry to a fatal condition: the run state becomes Halted with the record, and every other piece of state keeps the value
it had before the step. -/
def State.halt (s : State) (r : FaultRecord) : State := s.setRun (.halted r)

/-- Whether the run state is Halted. -/
def State.isHalted (s : State) : Bool :=
  match s.run with
  | .halted _ => true
  | _ => false

/-! Running and retiring an instruction (spec/40_engine.md R134 to R137). -/

/-- PC moved past `n` bytes, modulo 2^16 (spec/10_state.md R39). -/
def State.advance (s : State) (n : Nat) : State := s.setPc (s.pc + BitVec.ofNat 16 n)

/-- The cost of the key is added to `cycles` and the instruction is counted (R136, R137). -/
def State.retire (s : State) (k : Key) (taken : Bool) : State :=
  { s with cycles := s.cycles + s.cfg.cost k taken, icount := s.icount + 1 }

/-- Runs an instruction's rule from the state before its opcode fetch: PC moves past its bytes, the rule runs, and the
instruction retires; an access out of range ends the step in Halted with nothing else changed (R142). -/
def performTaken (k : Key) (taken : Bool) (rule : State → Access State) (s : State) :
    Host.Outcome State Fault Refusal :=
  match rule (s.advance k.length) with
  | .ok t => .next (t.retire k taken)
  | .error a => .next (s.halt (.outOfRange a))

/-- `performTaken` for an instruction with one fixed cost. -/
def perform (k : Key) (rule : State → Access State) (s : State) : Host.Outcome State Fault Refusal :=
  performTaken k true rule s

/-- `performTaken` for a conditional instruction: not taken, the rule does nothing, and the not-taken cost is added. -/
def performIf (k : Key) (taken : Bool) (rule : State → Access State) (s : State) :
    Host.Outcome State Fault Refusal :=
  if taken then performTaken k true rule s else performTaken k false .ok s

/-- An opcode that assigns no instruction (spec/30_encoding.md R114): the step ends in Halted with the byte and the address
of the opcode (spec/40_engine.md R140). -/
def illegal (op : Byte) (s : State) : Host.Outcome State Fault Refusal :=
  .next (s.halt (.unimplementedOpcode op s.pc false))

/-! The frame check (spec/40_engine.md R138, R139). -/

/-- The call `on_frame_ready()` (R139): every byte of the store at an address of RENDER_WRITES takes a free value; nothing
else of the core changes. The call is counted, so that the next one draws anew. -/
def State.hook (s : State) : State :=
  { s with
    mem := (s.cfg.renderWrites.filter s.inRange).foldl
      (fun m a => Memory.set m a.toNat (Config.hookByte s.hookCalls a.toNat)) s.mem
    hookCalls := s.hookCalls + 1 }

/-- The frame check (R138): strictly above FRAME_CYCLES the hook is called once and `cycles` is set to zero. -/
def State.frameCheck (s : State) : State :=
  if s.cfg.frameCycles < s.cycles then { s.hook with cycles := 0 } else s

/-! The injection port (spec/60_exceptions.md R377 to R380). -/

/-- The vector addresses (R378). -/
def IrqVector.address : IrqVector → Word
  | .vblank => 0x0040
  | .lcdStatus => 0x0048
  | .timer => 0x0050
  | .serial => 0x0058
  | .joypad => 0x0060

/-- The request the port presents at this boundary: none when the port is not connected or has nothing more to present. -/
def State.request (s : State) : PortRequest :=
  if s.cfg.irqPort then s.port.headD .none else .none

/-- The state with this boundary's request behind it. -/
def State.nextBoundary (s : State) : State :=
  if s.cfg.irqPort then { s with port := s.port.tail } else s

/-- The injected call, up to its frame check (R379): IME is cleared, a sleeping core runs, PC is pushed, PC takes the
vector's address and 20 cycles pass. An access out of range ends the step in Halted with nothing else changed. -/
def State.injectedCall (s : State) (v : IrqVector) : State :=
  match ((s.setIme false).setRun .running).push16 s.pc with
  | .ok t => { t.setPc v.address with cycles := t.cycles + 20 }
  | .error a => s.halt (.outOfRange a)

/-- Wake (R380): the run state becomes Running and nothing else changes. -/
def State.wake (s : State) : State := s.setRun .running

/-- An idle period of Sleeping(Halt), up to its frame check (spec/40_engine.md R143). -/
def State.idle (s : State) : State := { s with cycles := s.cycles + 4 }

end Sys2Proof.Machine
end

