-- ==== Sys2Proof/Machine/Flags.lean ====
section
/-! DEFINITION. The flag register (spec/10_state.md R34 to R36) and every computation of a result with its flags: the ALU
primitives of spec/43_alu8.md R210, R211, R221, R222, of spec/44_alu16.md R250, R253, R255, decimal adjust (R227), and the
rotates and shifts of spec/46_rotate_shift_bit.md. -/

namespace Sys2Proof.Machine

/-- The four flags. -/
inductive Flag where
  | z
  | n
  | h
  | c
deriving DecidableEq, Repr

/-- The bit of F a flag stands in (R34). -/
def Flag.bit : Flag → Nat
  | .z => 7
  | .n => 6
  | .h => 5
  | .c => 4

/-- `flag(name)`: one bit of F. -/
def getFlag (f : Byte) (x : Flag) : Bool := f.getLsbD x.bit

/-- `set_flag(name, b)` (R35): changes that bit of F only. -/
def setFlag (f : Byte) (x : Flag) (b : Bool) : Byte :=
  if b then f ||| BitVec.twoPow 8 x.bit else f &&& ~~~(BitVec.twoPow 8 x.bit)

/-- Writes the flag if a value is given, else leaves it. -/
def putFlag (f : Byte) (x : Flag) : Option Bool → Byte
  | some b => setFlag f x b
  | none => f

/-- A flag of the state. -/
def State.flag (s : State) (x : Flag) : Bool := getFlag s.f x

/-- Writes the flags given, one by one, and leaves the others (the "Flags: Z N H C" line of an instruction's rule). -/
def State.withFlags (s : State) (z n h c : Option Bool) : State :=
  { s with f := putFlag (putFlag (putFlag (putFlag s.f .z z) .n n) .h h) .c c }

/-- A whole byte written to F loses its low nibble (R36). -/
def maskF (v : Byte) : Byte := v &&& 0xF0

/-- `cond(cc)` against the flags (spec/30_encoding.md R104). -/
def State.cond (s : State) : Cond → Bool
  | .nz => !s.flag .z
  | .z => s.flag .z
  | .nc => !s.flag .c
  | .c => s.flag .c

/-- A result with the carries out of it: (r, h, cy). -/
structure Carried (w : Nat) where
  r : BitVec w
  h : Bool
  cy : Bool
deriving DecidableEq, Repr

/-- `add8(a, b, c)` (R210). -/
def add8 (a b : Byte) (c : Bool) : Carried 8 where
  r := BitVec.ofNat 8 (a.toNat + b.toNat + c.toNat)
  h := decide (a.toNat % 16 + b.toNat % 16 + c.toNat > 0xF)
  cy := decide (a.toNat + b.toNat + c.toNat > 0xFF)

/-- `sub8(a, b, c)` (R211). -/
def sub8 (a b : Byte) (c : Bool) : Carried 8 where
  r := a - b - BitVec.ofNat 8 c.toNat
  h := decide (a.toNat % 16 < b.toNat % 16 + c.toNat)
  cy := decide (a.toNat < b.toNat + c.toNat)

/-- The outputs of the 8-bit increment and decrement helpers. -/
structure Stepped where
  r : Byte
  z : Bool
  n : Bool
  h : Bool
deriving DecidableEq, Repr

/-- `inc8(v)` (R221). -/
def inc8 (v : Byte) : Stepped where
  r := v + 1
  z := v + 1 == 0
  n := false
  h := v &&& 0x0F == 0x0F

/-- `dec8(v)` (R222). -/
def dec8 (v : Byte) : Stepped where
  r := v - 1
  z := v - 1 == 0
  n := true
  h := v &&& 0x0F == 0

/-- The outputs of the 16-bit increment and decrement helpers (R250). No instruction writes `z` or `n` to F. -/
structure Stepped16 where
  r : Word
  z : Bool
  n : Bool
deriving DecidableEq, Repr

/-- `inc16(v)` (R250). -/
def inc16 (v : Word) : Stepped16 where
  r := v + 1
  z := v + 1 == 0
  n := false

/-- `dec16(v)` (R250). -/
def dec16 (v : Word) : Stepped16 where
  r := v - 1
  z := v - 1 == 0
  n := true

/-- The 16-bit addition of ADD HL,rr (R253): H is the carry out of bit 11, C the carry out of bit 15. -/
def add16 (a b : Word) : Carried 16 where
  r := a + b
  h := decide (a.toNat % 0x1000 + b.toNat % 0x1000 > 0x0FFF)
  cy := decide (a.toNat + b.toNat > 0xFFFF)

/-- `sp_add(sp, b)` (R255): the carries are those of the unsigned addition of the low bytes. -/
def spAdd (sp : Word) (b : Byte) : Carried 16 where
  r := sp + sext16 b
  h := decide (sp.toNat % 0x10 + b.toNat % 0x10 > 0x0F)
  cy := decide (sp.toNat % 0x100 + b.toNat > 0xFF)

/-- The decimal adjustment of A (R227): the adjusted byte and the carry. -/
def daa (a : Byte) (n h c : Bool) : Byte × Bool :=
  if n then
    let a1 := if c then a - 0x60 else a
    let a2 := if h then a1 - 0x06 else a1
    (a2, c)
  else
    let high := c || decide (0x99 < a.toNat)
    let a1 := if high then a + 0x60 else a
    let a2 := if h || decide (0x09 < a1.toNat % 16) then a1 + 0x06 else a1
    (a2, high)

/-- The rotate and shift operations of the CB sub-table, by the field y (spec/30_encoding.md R111). -/
inductive ShiftOp where
  | rlc
  | rrc
  | rl
  | rr
  | sla
  | sra
  | swap
  | srl
deriving DecidableEq, Repr

/-- The result and the carry of a rotate or shift of `v` with the carry flag `c` (R315 to R322). -/
def shift (op : ShiftOp) (v : Byte) (c : Bool) : Byte × Bool :=
  let inLow (b : Bool) : Byte := if b then 0x01 else 0
  let inHigh (b : Bool) : Byte := if b then 0x80 else 0
  match op with
  | .rlc => (v <<< 1 ||| inLow (v.getLsbD 7), v.getLsbD 7)
  | .rrc => (v >>> 1 ||| inHigh (v.getLsbD 0), v.getLsbD 0)
  | .rl => (v <<< 1 ||| inLow c, v.getLsbD 7)
  | .rr => (v >>> 1 ||| inHigh c, v.getLsbD 0)
  | .sla => (v <<< 1, v.getLsbD 7)
  | .sra => (v >>> 1 ||| v &&& 0x80, v.getLsbD 0)
  | .swap => (v <<< 4 ||| v >>> 4, false)
  | .srl => (v >>> 1, v.getLsbD 0)

/-- `v & ~(1 << b) & 0xFF` (R324). -/
def clearBit (v : Byte) (b : Fin 8) : Byte := v &&& ~~~(BitVec.twoPow 8 b.val)

/-- `v | (1 << b)` (R325). -/
def assertBit (v : Byte) (b : Fin 8) : Byte := v ||| BitVec.twoPow 8 b.val

end Sys2Proof.Machine
end

