-- ==== Sys2Proof/Machine/Operands.lean ====
section
/-! DEFINITION. Every operand form: the registers and pairs (spec/10_state.md R30 to R33), the operand decodes of
spec/30_encoding.md R102 and R103, and the addressing modes of spec/45_loads.md section 1. -/

namespace Sys2Proof.Machine

/-- The register `R8[n]`. -/
def State.reg (s : State) : Reg8 → Byte
  | .b => s.b
  | .c => s.c
  | .d => s.d
  | .e => s.e
  | .h => s.h
  | .l => s.l
  | .a => s.a

/-- A write of the register `R8[n]`. -/
def State.setReg (s : State) (r : Reg8) (v : Byte) : State :=
  match r with
  | .b => { s with b := v }
  | .c => { s with c := v }
  | .d => { s with d := v }
  | .e => { s with e := v }
  | .h => { s with h := v }
  | .l => { s with l := v }
  | .a => { s with a := v }

/-- The pair BC (R32). -/
def State.bc (s : State) : Word := wordOf s.b s.c

/-- The pair DE (R32). -/
def State.de (s : State) : Word := wordOf s.d s.e

/-- The pair HL (R32). -/
def State.hl (s : State) : Word := wordOf s.h s.l

/-- The pair AF (R33). -/
def State.af (s : State) : Word := wordOf s.a s.f

/-- A write of BC: `B <- v[15:8]`, `C <- v[7:0]` (R32). -/
def State.setBc (s : State) (v : Word) : State := { s with b := hiByte v, c := loByte v }

/-- A write of DE (R32). -/
def State.setDe (s : State) (v : Word) : State := { s with d := hiByte v, e := loByte v }

/-- A write of HL (R32). -/
def State.setHl (s : State) (v : Word) : State := { s with h := hiByte v, l := loByte v }

/-- A write of AF: F loses its low nibble (R33, R36). -/
def State.setAf (s : State) (v : Word) : State := { s with a := hiByte v, f := maskF (loByte v) }

/-- `R16sp[p]` (spec/30_encoding.md R103). -/
def State.pairSp (s : State) : PairSp → Word
  | .bc => s.bc
  | .de => s.de
  | .hl => s.hl
  | .sp => s.sp

/-- A write of `R16sp[p]`. -/
def State.setPairSp (s : State) (p : PairSp) (v : Word) : State :=
  match p with
  | .bc => s.setBc v
  | .de => s.setDe v
  | .hl => s.setHl v
  | .sp => s.setSp v

/-- `R16af[p]` (spec/30_encoding.md R103). -/
def State.pairAf (s : State) : PairAf → Word
  | .bc => s.bc
  | .de => s.de
  | .hl => s.hl
  | .af => s.af

/-- A write of `R16af[p]`. -/
def State.setPairAf (s : State) (p : PairAf) (v : Word) : State :=
  match p with
  | .bc => s.setBc v
  | .de => s.setDe v
  | .hl => s.setHl v
  | .af => s.setAf v

/-- An operand of the field z or y: a register, or the memory byte at HL (R102). -/
inductive Loc where
  | reg (r : Reg8)
  | atHl
deriving DecidableEq, Repr

/-- Reads the operand (R102). -/
def State.readLoc (s : State) : Loc → Access Byte
  | .reg r => .ok (s.reg r)
  | .atHl => s.read8 s.hl

/-- Writes the operand (R102). -/
def State.writeLoc (s : State) (x : Loc) (v : Byte) : Access State :=
  match x with
  | .reg r => .ok (s.setReg r v)
  | .atHl => s.write8 s.hl v

/-- A source operand: one of the field z, or an immediate byte (spec/43_alu8.md R212, spec/45_loads.md). -/
inductive Src where
  | loc (x : Loc)
  | imm (d8 : Byte)
deriving DecidableEq, Repr

/-- The value of a source operand. -/
def State.readSrc (s : State) : Src → Access Byte
  | .loc x => s.readLoc x
  | .imm v => .ok v

/-- The operand `R8[n]` of a 3-bit field (R102). -/
def locOf (n : BitVec 3) : Loc :=
  if n = 0 then .reg .b else if n = 1 then .reg .c else if n = 2 then .reg .d else if n = 3 then .reg .e
  else if n = 4 then .reg .h else if n = 5 then .reg .l else if n = 6 then .atHl else .reg .a

/-- The addressing modes that move A (spec/45_loads.md section 1). -/
inductive Mode where
  | bc
  | de
  | hlInc
  | hlDec
  | abs (a16 : Word)
  | high (a8 : Byte)
  | highC
deriving DecidableEq, Repr

/-- The effective address of a mode. -/
def State.address (s : State) : Mode → Word
  | .bc => s.bc
  | .de => s.de
  | .hlInc => s.hl
  | .hlDec => s.hl
  | .abs t => t
  | .high n => highPage n
  | .highC => highPage s.c

/-- The base modification of a mode, made after the access. -/
def State.modify (s : State) : Mode → State
  | .hlInc => s.setHl (s.hl + 1)
  | .hlDec => s.setHl (s.hl - 1)
  | _ => s

end Sys2Proof.Machine
end

