-- ==== Sys2Proof/Machine/Alu16.lean ====
section
/-! DEFINITION. 16-bit arithmetic (spec/44_alu16.md). -/

namespace Sys2Proof.Machine

/-- INC rr (R251): no flag is written. -/
def incPair (p : PairSp) (s : State) : Access State := .ok (s.setPairSp p (inc16 (s.pairSp p)).r)

/-- DEC rr (R252): no flag is written. -/
def decPair (p : PairSp) (s : State) : Access State := .ok (s.setPairSp p (dec16 (s.pairSp p)).r)

/-- ADD HL,rr (R253): Z is left alone. -/
def addHl (p : PairSp) (s : State) : Access State :=
  let sum := add16 s.hl (s.pairSp p)
  .ok ((s.setHl sum.r).withFlags none (some false) (some sum.h) (some sum.cy))

/-- ADD SP,e8 (R254). -/
def addSp (e8 : Byte) (s : State) : Access State :=
  let sum := spAdd s.sp e8
  .ok ((s.setSp sum.r).withFlags (some false) (some false) (some sum.h) (some sum.cy))

/-- `INC BC`, 03 (R251). -/
def execInc_bc (s : State) : Host.Outcome State Fault Refusal :=
  perform (.primary 0x03) (incPair .bc) s

/-- `ADD HL, BC`, 09 (R253). -/
def execAdd_hl_bc (s : State) : Host.Outcome State Fault Refusal :=
  perform (.primary 0x09) (addHl .bc) s

/-- `DEC BC`, 0B (R252). -/
def execDec_bc (s : State) : Host.Outcome State Fault Refusal :=
  perform (.primary 0x0B) (decPair .bc) s

/-- `INC DE`, 13 (R251). -/
def execInc_de (s : State) : Host.Outcome State Fault Refusal :=
  perform (.primary 0x13) (incPair .de) s

/-- `ADD HL, DE`, 19 (R253). -/
def execAdd_hl_de (s : State) : Host.Outcome State Fault Refusal :=
  perform (.primary 0x19) (addHl .de) s

/-- `DEC DE`, 1B (R252). -/
def execDec_de (s : State) : Host.Outcome State Fault Refusal :=
  perform (.primary 0x1B) (decPair .de) s

/-- `INC HL`, 23 (R251). -/
def execInc_hl (s : State) : Host.Outcome State Fault Refusal :=
  perform (.primary 0x23) (incPair .hl) s

/-- `ADD HL, HL`, 29 (R253). -/
def execAdd_hl_hl (s : State) : Host.Outcome State Fault Refusal :=
  perform (.primary 0x29) (addHl .hl) s

/-- `DEC HL`, 2B (R252). -/
def execDec_hl (s : State) : Host.Outcome State Fault Refusal :=
  perform (.primary 0x2B) (decPair .hl) s

/-- `INC SP`, 33 (R251). -/
def execInc_sp (s : State) : Host.Outcome State Fault Refusal :=
  perform (.primary 0x33) (incPair .sp) s

/-- `ADD HL, SP`, 39 (R253). -/
def execAdd_hl_sp (s : State) : Host.Outcome State Fault Refusal :=
  perform (.primary 0x39) (addHl .sp) s

/-- `DEC SP`, 3B (R252). -/
def execDec_sp (s : State) : Host.Outcome State Fault Refusal :=
  perform (.primary 0x3B) (decPair .sp) s

/-- `ADD SP, e8`, E8 (R254). -/
def execAdd_sp_e8 (e8 : Byte) (s : State) : Host.Outcome State Fault Refusal :=
  perform (.primary 0xE8) (addSp e8) s

end Sys2Proof.Machine
end

