-- ==== Sys2Proof/Machine/Alu8.lean ====
section
/-! DEFINITION. 8-bit arithmetic and logic (spec/43_alu8.md). -/

namespace Sys2Proof.Machine

/-- The eight ALU operations, by the field y (R212). -/
inductive AluOp where
  | add
  | adc
  | sub
  | sbc
  | and
  | xor
  | or
  | cp
deriving DecidableEq, Repr

/-- A takes the result; Z follows it, N, H and C are given. -/
def State.setResult (s : State) (r : Byte) (n h c : Bool) : State :=
  (s.setReg .a r).withFlags (some (r == 0)) (some n) (some h) (some c)

/-- One of the eight operations on A and a value (R213 to R220). CP writes the flags of the subtraction only. -/
def aluValue (op : AluOp) (v : Byte) (s : State) : State :=
  match op with
  | .add => let x := add8 s.a v false; s.setResult x.r false x.h x.cy
  | .adc => let x := add8 s.a v (s.flag .c); s.setResult x.r false x.h x.cy
  | .sub => let x := sub8 s.a v false; s.setResult x.r true x.h x.cy
  | .sbc => let x := sub8 s.a v (s.flag .c); s.setResult x.r true x.h x.cy
  | .and => s.setResult (s.a &&& v) false true false
  | .xor => s.setResult (s.a ^^^ v) false false false
  | .or => s.setResult (s.a ||| v) false false false
  | .cp => let x := sub8 s.a v false; s.withFlags (some (x.r == 0)) (some true) (some x.h) (some x.cy)

/-- The operand is read, then the operation runs (R212). -/
def alu (op : AluOp) (x : Src) (s : State) : Access State := do
  let v ← s.readSrc x
  return aluValue op v s

/-- The stepped value is written back and Z, N, H are written; C is left alone (R223 to R226). -/
def stepLoc (f : Byte → Stepped) (x : Loc) (s : State) : Access State := do
  let v ← s.readLoc x
  let y := f v
  let t ← s.writeLoc x y.r
  return t.withFlags (some y.z) (some y.n) (some y.h) none

/-- INC r and INC (HL) (R223, R224). -/
def incLoc (x : Loc) (s : State) : Access State := stepLoc inc8 x s

/-- DEC r and DEC (HL) (R225, R226). -/
def decLoc (x : Loc) (s : State) : Access State := stepLoc dec8 x s

/-- DAA (R227): N is left alone. -/
def decimalAdjust (s : State) : Access State :=
  let x := daa s.a (s.flag .n) (s.flag .h) (s.flag .c)
  .ok ((s.setReg .a x.1).withFlags (some (x.1 == 0)) none (some false) (some x.2))

/-- CPL (R228). -/
def complementA (s : State) : Access State :=
  .ok ((s.setReg .a (~~~s.a)).withFlags none (some true) (some true) none)

/-- SCF (R229). -/
def setCarry (s : State) : Access State :=
  .ok (s.withFlags none (some false) (some false) (some true))

/-- CCF (R230). -/
def complementCarry (s : State) : Access State :=
  .ok (s.withFlags none (some false) (some false) (some (!s.flag .c)))

/-- `INC B`, 04 (R223). -/
def execInc_b (s : State) : Host.Outcome State Fault Refusal :=
  perform (.primary 0x04) (incLoc (.reg .b)) s

/-- `DEC B`, 05 (R225). -/
def execDec_b (s : State) : Host.Outcome State Fault Refusal :=
  perform (.primary 0x05) (decLoc (.reg .b)) s

/-- `INC C`, 0C (R223). -/
def execInc_c (s : State) : Host.Outcome State Fault Refusal :=
  perform (.primary 0x0C) (incLoc (.reg .c)) s

/-- `DEC C`, 0D (R225). -/
def execDec_c (s : State) : Host.Outcome State Fault Refusal :=
  perform (.primary 0x0D) (decLoc (.reg .c)) s

/-- `INC D`, 14 (R223). -/
def execInc_d (s : State) : Host.Outcome State Fault Refusal :=
  perform (.primary 0x14) (incLoc (.reg .d)) s

/-- `DEC D`, 15 (R225). -/
def execDec_d (s : State) : Host.Outcome State Fault Refusal :=
  perform (.primary 0x15) (decLoc (.reg .d)) s

/-- `INC E`, 1C (R223). -/
def execInc_e (s : State) : Host.Outcome State Fault Refusal :=
  perform (.primary 0x1C) (incLoc (.reg .e)) s

/-- `DEC E`, 1D (R225). -/
def execDec_e (s : State) : Host.Outcome State Fault Refusal :=
  perform (.primary 0x1D) (decLoc (.reg .e)) s

/-- `INC H`, 24 (R223). -/
def execInc_h (s : State) : Host.Outcome State Fault Refusal :=
  perform (.primary 0x24) (incLoc (.reg .h)) s

/-- `DEC H`, 25 (R225). -/
def execDec_h (s : State) : Host.Outcome State Fault Refusal :=
  perform (.primary 0x25) (decLoc (.reg .h)) s

/-- `DAA`, 27 (R227). -/
def execDaa (s : State) : Host.Outcome State Fault Refusal :=
  perform (.primary 0x27) decimalAdjust s

/-- `INC L`, 2C (R223). -/
def execInc_l (s : State) : Host.Outcome State Fault Refusal :=
  perform (.primary 0x2C) (incLoc (.reg .l)) s

/-- `DEC L`, 2D (R225). -/
def execDec_l (s : State) : Host.Outcome State Fault Refusal :=
  perform (.primary 0x2D) (decLoc (.reg .l)) s

/-- `CPL`, 2F (R228). -/
def execCpl (s : State) : Host.Outcome State Fault Refusal :=
  perform (.primary 0x2F) complementA s

/-- `INC (HL)`, 34 (R224). -/
def execInc_at_hl (s : State) : Host.Outcome State Fault Refusal :=
  perform (.primary 0x34) (incLoc .atHl) s

/-- `DEC (HL)`, 35 (R226). -/
def execDec_at_hl (s : State) : Host.Outcome State Fault Refusal :=
  perform (.primary 0x35) (decLoc .atHl) s

/-- `SCF`, 37 (R229). -/
def execScf (s : State) : Host.Outcome State Fault Refusal :=
  perform (.primary 0x37) setCarry s

/-- `INC A`, 3C (R223). -/
def execInc_a (s : State) : Host.Outcome State Fault Refusal :=
  perform (.primary 0x3C) (incLoc (.reg .a)) s

/-- `DEC A`, 3D (R225). -/
def execDec_a (s : State) : Host.Outcome State Fault Refusal :=
  perform (.primary 0x3D) (decLoc (.reg .a)) s

/-- `CCF`, 3F (R230). -/
def execCcf (s : State) : Host.Outcome State Fault Refusal :=
  perform (.primary 0x3F) complementCarry s

/-- `ADD A, B`, 80 (R213). -/
def execAdd_a_b (s : State) : Host.Outcome State Fault Refusal :=
  perform (.primary 0x80) (alu .add (.loc (.reg .b))) s

/-- `ADD A, C`, 81 (R213). -/
def execAdd_a_c (s : State) : Host.Outcome State Fault Refusal :=
  perform (.primary 0x81) (alu .add (.loc (.reg .c))) s

/-- `ADD A, D`, 82 (R213). -/
def execAdd_a_d (s : State) : Host.Outcome State Fault Refusal :=
  perform (.primary 0x82) (alu .add (.loc (.reg .d))) s

/-- `ADD A, E`, 83 (R213). -/
def execAdd_a_e (s : State) : Host.Outcome State Fault Refusal :=
  perform (.primary 0x83) (alu .add (.loc (.reg .e))) s

/-- `ADD A, H`, 84 (R213). -/
def execAdd_a_h (s : State) : Host.Outcome State Fault Refusal :=
  perform (.primary 0x84) (alu .add (.loc (.reg .h))) s

/-- `ADD A, L`, 85 (R213). -/
def execAdd_a_l (s : State) : Host.Outcome State Fault Refusal :=
  perform (.primary 0x85) (alu .add (.loc (.reg .l))) s

/-- `ADD A, (HL)`, 86 (R213). -/
def execAdd_a_at_hl (s : State) : Host.Outcome State Fault Refusal :=
  perform (.primary 0x86) (alu .add (.loc .atHl)) s

/-- `ADD A, A`, 87 (R213). -/
def execAdd_a_a (s : State) : Host.Outcome State Fault Refusal :=
  perform (.primary 0x87) (alu .add (.loc (.reg .a))) s

/-- `ADC A, B`, 88 (R214). -/
def execAdc_a_b (s : State) : Host.Outcome State Fault Refusal :=
  perform (.primary 0x88) (alu .adc (.loc (.reg .b))) s

/-- `ADC A, C`, 89 (R214). -/
def execAdc_a_c (s : State) : Host.Outcome State Fault Refusal :=
  perform (.primary 0x89) (alu .adc (.loc (.reg .c))) s

/-- `ADC A, D`, 8A (R214). -/
def execAdc_a_d (s : State) : Host.Outcome State Fault Refusal :=
  perform (.primary 0x8A) (alu .adc (.loc (.reg .d))) s

/-- `ADC A, E`, 8B (R214). -/
def execAdc_a_e (s : State) : Host.Outcome State Fault Refusal :=
  perform (.primary 0x8B) (alu .adc (.loc (.reg .e))) s

/-- `ADC A, H`, 8C (R214). -/
def execAdc_a_h (s : State) : Host.Outcome State Fault Refusal :=
  perform (.primary 0x8C) (alu .adc (.loc (.reg .h))) s

/-- `ADC A, L`, 8D (R214). -/
def execAdc_a_l (s : State) : Host.Outcome State Fault Refusal :=
  perform (.primary 0x8D) (alu .adc (.loc (.reg .l))) s

/-- `ADC A, (HL)`, 8E (R214). -/
def execAdc_a_at_hl (s : State) : Host.Outcome State Fault Refusal :=
  perform (.primary 0x8E) (alu .adc (.loc .atHl)) s

/-- `ADC A, A`, 8F (R214). -/
def execAdc_a_a (s : State) : Host.Outcome State Fault Refusal :=
  perform (.primary 0x8F) (alu .adc (.loc (.reg .a))) s

/-- `SUB B`, 90 (R215). -/
def execSub_b (s : State) : Host.Outcome State Fault Refusal :=
  perform (.primary 0x90) (alu .sub (.loc (.reg .b))) s

/-- `SUB C`, 91 (R215). -/
def execSub_c (s : State) : Host.Outcome State Fault Refusal :=
  perform (.primary 0x91) (alu .sub (.loc (.reg .c))) s

/-- `SUB D`, 92 (R215). -/
def execSub_d (s : State) : Host.Outcome State Fault Refusal :=
  perform (.primary 0x92) (alu .sub (.loc (.reg .d))) s

/-- `SUB E`, 93 (R215). -/
def execSub_e (s : State) : Host.Outcome State Fault Refusal :=
  perform (.primary 0x93) (alu .sub (.loc (.reg .e))) s

/-- `SUB H`, 94 (R215). -/
def execSub_h (s : State) : Host.Outcome State Fault Refusal :=
  perform (.primary 0x94) (alu .sub (.loc (.reg .h))) s

/-- `SUB L`, 95 (R215). -/
def execSub_l (s : State) : Host.Outcome State Fault Refusal :=
  perform (.primary 0x95) (alu .sub (.loc (.reg .l))) s

/-- `SUB (HL)`, 96 (R215). -/
def execSub_at_hl (s : State) : Host.Outcome State Fault Refusal :=
  perform (.primary 0x96) (alu .sub (.loc .atHl)) s

/-- `SUB A`, 97 (R215). -/
def execSub_a (s : State) : Host.Outcome State Fault Refusal :=
  perform (.primary 0x97) (alu .sub (.loc (.reg .a))) s

/-- `SBC A, B`, 98 (R216). -/
def execSbc_a_b (s : State) : Host.Outcome State Fault Refusal :=
  perform (.primary 0x98) (alu .sbc (.loc (.reg .b))) s

/-- `SBC A, C`, 99 (R216). -/
def execSbc_a_c (s : State) : Host.Outcome State Fault Refusal :=
  perform (.primary 0x99) (alu .sbc (.loc (.reg .c))) s

/-- `SBC A, D`, 9A (R216). -/
def execSbc_a_d (s : State) : Host.Outcome State Fault Refusal :=
  perform (.primary 0x9A) (alu .sbc (.loc (.reg .d))) s

/-- `SBC A, E`, 9B (R216). -/
def execSbc_a_e (s : State) : Host.Outcome State Fault Refusal :=
  perform (.primary 0x9B) (alu .sbc (.loc (.reg .e))) s

/-- `SBC A, H`, 9C (R216). -/
def execSbc_a_h (s : State) : Host.Outcome State Fault Refusal :=
  perform (.primary 0x9C) (alu .sbc (.loc (.reg .h))) s

/-- `SBC A, L`, 9D (R216). -/
def execSbc_a_l (s : State) : Host.Outcome State Fault Refusal :=
  perform (.primary 0x9D) (alu .sbc (.loc (.reg .l))) s

/-- `SBC A, (HL)`, 9E (R216). -/
def execSbc_a_at_hl (s : State) : Host.Outcome State Fault Refusal :=
  perform (.primary 0x9E) (alu .sbc (.loc .atHl)) s

/-- `SBC A, A`, 9F (R216). -/
def execSbc_a_a (s : State) : Host.Outcome State Fault Refusal :=
  perform (.primary 0x9F) (alu .sbc (.loc (.reg .a))) s

/-- `AND B`, A0 (R217). -/
def execAnd_b (s : State) : Host.Outcome State Fault Refusal :=
  perform (.primary 0xA0) (alu .and (.loc (.reg .b))) s

/-- `AND C`, A1 (R217). -/
def execAnd_c (s : State) : Host.Outcome State Fault Refusal :=
  perform (.primary 0xA1) (alu .and (.loc (.reg .c))) s

/-- `AND D`, A2 (R217). -/
def execAnd_d (s : State) : Host.Outcome State Fault Refusal :=
  perform (.primary 0xA2) (alu .and (.loc (.reg .d))) s

/-- `AND E`, A3 (R217). -/
def execAnd_e (s : State) : Host.Outcome State Fault Refusal :=
  perform (.primary 0xA3) (alu .and (.loc (.reg .e))) s

/-- `AND H`, A4 (R217). -/
def execAnd_h (s : State) : Host.Outcome State Fault Refusal :=
  perform (.primary 0xA4) (alu .and (.loc (.reg .h))) s

/-- `AND L`, A5 (R217). -/
def execAnd_l (s : State) : Host.Outcome State Fault Refusal :=
  perform (.primary 0xA5) (alu .and (.loc (.reg .l))) s

/-- `AND (HL)`, A6 (R217). -/
def execAnd_at_hl (s : State) : Host.Outcome State Fault Refusal :=
  perform (.primary 0xA6) (alu .and (.loc .atHl)) s

/-- `AND A`, A7 (R217). -/
def execAnd_a (s : State) : Host.Outcome State Fault Refusal :=
  perform (.primary 0xA7) (alu .and (.loc (.reg .a))) s

/-- `XOR B`, A8 (R218). -/
def execXor_b (s : State) : Host.Outcome State Fault Refusal :=
  perform (.primary 0xA8) (alu .xor (.loc (.reg .b))) s

/-- `XOR C`, A9 (R218). -/
def execXor_c (s : State) : Host.Outcome State Fault Refusal :=
  perform (.primary 0xA9) (alu .xor (.loc (.reg .c))) s

/-- `XOR D`, AA (R218). -/
def execXor_d (s : State) : Host.Outcome State Fault Refusal :=
  perform (.primary 0xAA) (alu .xor (.loc (.reg .d))) s

/-- `XOR E`, AB (R218). -/
def execXor_e (s : State) : Host.Outcome State Fault Refusal :=
  perform (.primary 0xAB) (alu .xor (.loc (.reg .e))) s

/-- `XOR H`, AC (R218). -/
def execXor_h (s : State) : Host.Outcome State Fault Refusal :=
  perform (.primary 0xAC) (alu .xor (.loc (.reg .h))) s

/-- `XOR L`, AD (R218). -/
def execXor_l (s : State) : Host.Outcome State Fault Refusal :=
  perform (.primary 0xAD) (alu .xor (.loc (.reg .l))) s

/-- `XOR (HL)`, AE (R218). -/
def execXor_at_hl (s : State) : Host.Outcome State Fault Refusal :=
  perform (.primary 0xAE) (alu .xor (.loc .atHl)) s

/-- `XOR A`, AF (R218). -/
def execXor_a (s : State) : Host.Outcome State Fault Refusal :=
  perform (.primary 0xAF) (alu .xor (.loc (.reg .a))) s

/-- `OR B`, B0 (R219). -/
def execOr_b (s : State) : Host.Outcome State Fault Refusal :=
  perform (.primary 0xB0) (alu .or (.loc (.reg .b))) s

/-- `OR C`, B1 (R219). -/
def execOr_c (s : State) : Host.Outcome State Fault Refusal :=
  perform (.primary 0xB1) (alu .or (.loc (.reg .c))) s

/-- `OR D`, B2 (R219). -/
def execOr_d (s : State) : Host.Outcome State Fault Refusal :=
  perform (.primary 0xB2) (alu .or (.loc (.reg .d))) s

/-- `OR E`, B3 (R219). -/
def execOr_e (s : State) : Host.Outcome State Fault Refusal :=
  perform (.primary 0xB3) (alu .or (.loc (.reg .e))) s

/-- `OR H`, B4 (R219). -/
def execOr_h (s : State) : Host.Outcome State Fault Refusal :=
  perform (.primary 0xB4) (alu .or (.loc (.reg .h))) s

/-- `OR L`, B5 (R219). -/
def execOr_l (s : State) : Host.Outcome State Fault Refusal :=
  perform (.primary 0xB5) (alu .or (.loc (.reg .l))) s

/-- `OR (HL)`, B6 (R219). -/
def execOr_at_hl (s : State) : Host.Outcome State Fault Refusal :=
  perform (.primary 0xB6) (alu .or (.loc .atHl)) s

/-- `OR A`, B7 (R219). -/
def execOr_a (s : State) : Host.Outcome State Fault Refusal :=
  perform (.primary 0xB7) (alu .or (.loc (.reg .a))) s

/-- `CP B`, B8 (R220). -/
def execCp_b (s : State) : Host.Outcome State Fault Refusal :=
  perform (.primary 0xB8) (alu .cp (.loc (.reg .b))) s

/-- `CP C`, B9 (R220). -/
def execCp_c (s : State) : Host.Outcome State Fault Refusal :=
  perform (.primary 0xB9) (alu .cp (.loc (.reg .c))) s

/-- `CP D`, BA (R220). -/
def execCp_d (s : State) : Host.Outcome State Fault Refusal :=
  perform (.primary 0xBA) (alu .cp (.loc (.reg .d))) s

/-- `CP E`, BB (R220). -/
def execCp_e (s : State) : Host.Outcome State Fault Refusal :=
  perform (.primary 0xBB) (alu .cp (.loc (.reg .e))) s

/-- `CP H`, BC (R220). -/
def execCp_h (s : State) : Host.Outcome State Fault Refusal :=
  perform (.primary 0xBC) (alu .cp (.loc (.reg .h))) s

/-- `CP L`, BD (R220). -/
def execCp_l (s : State) : Host.Outcome State Fault Refusal :=
  perform (.primary 0xBD) (alu .cp (.loc (.reg .l))) s

/-- `CP (HL)`, BE (R220). -/
def execCp_at_hl (s : State) : Host.Outcome State Fault Refusal :=
  perform (.primary 0xBE) (alu .cp (.loc .atHl)) s

/-- `CP A`, BF (R220). -/
def execCp_a (s : State) : Host.Outcome State Fault Refusal :=
  perform (.primary 0xBF) (alu .cp (.loc (.reg .a))) s

/-- `ADD A, d8`, C6 (R213). -/
def execAdd_a_d8 (d8 : Byte) (s : State) : Host.Outcome State Fault Refusal :=
  perform (.primary 0xC6) (alu .add (.imm d8)) s

/-- `ADC A, d8`, CE (R214). -/
def execAdc_a_d8 (d8 : Byte) (s : State) : Host.Outcome State Fault Refusal :=
  perform (.primary 0xCE) (alu .adc (.imm d8)) s

/-- `SUB d8`, D6 (R215). -/
def execSub_d8 (d8 : Byte) (s : State) : Host.Outcome State Fault Refusal :=
  perform (.primary 0xD6) (alu .sub (.imm d8)) s

/-- `SBC A, d8`, DE (R216). -/
def execSbc_a_d8 (d8 : Byte) (s : State) : Host.Outcome State Fault Refusal :=
  perform (.primary 0xDE) (alu .sbc (.imm d8)) s

/-- `AND d8`, E6 (R217). -/
def execAnd_d8 (d8 : Byte) (s : State) : Host.Outcome State Fault Refusal :=
  perform (.primary 0xE6) (alu .and (.imm d8)) s

/-- `XOR d8`, EE (R218). -/
def execXor_d8 (d8 : Byte) (s : State) : Host.Outcome State Fault Refusal :=
  perform (.primary 0xEE) (alu .xor (.imm d8)) s

/-- `OR d8`, F6 (R219). -/
def execOr_d8 (d8 : Byte) (s : State) : Host.Outcome State Fault Refusal :=
  perform (.primary 0xF6) (alu .or (.imm d8)) s

/-- `CP d8`, FE (R220). -/
def execCp_d8 (d8 : Byte) (s : State) : Host.Outcome State Fault Refusal :=
  perform (.primary 0xFE) (alu .cp (.imm d8)) s

end Sys2Proof.Machine
end

