-- ==== Sys2Proof/Machine/CbShifts.lean ====
section
/-! DEFINITION. The rotates, shifts and SWAP of the CB sub-table (spec/46_rotate_shift_bit.md R314 to R322). -/

namespace Sys2Proof.Machine

/-- The operand is read, rotated or shifted and written back; Z follows the result, N and H are cleared, C takes the bit
shifted out (R314 to R322). -/
def shiftLoc (op : ShiftOp) (x : Loc) (s : State) : Access State := do
  let v ← s.readLoc x
  let y := shift op v (s.flag .c)
  let t ← s.writeLoc x y.1
  return t.withFlags (some (y.1 == 0)) (some false) (some false) (some y.2)

/-- `RLC B`, CB 00 (R315). -/
def execRlc_b (s : State) : Host.Outcome State Fault Refusal :=
  perform (.cb 0x00) (shiftLoc .rlc (.reg .b)) s

/-- `RLC C`, CB 01 (R315). -/
def execRlc_c (s : State) : Host.Outcome State Fault Refusal :=
  perform (.cb 0x01) (shiftLoc .rlc (.reg .c)) s

/-- `RLC D`, CB 02 (R315). -/
def execRlc_d (s : State) : Host.Outcome State Fault Refusal :=
  perform (.cb 0x02) (shiftLoc .rlc (.reg .d)) s

/-- `RLC E`, CB 03 (R315). -/
def execRlc_e (s : State) : Host.Outcome State Fault Refusal :=
  perform (.cb 0x03) (shiftLoc .rlc (.reg .e)) s

/-- `RLC H`, CB 04 (R315). -/
def execRlc_h (s : State) : Host.Outcome State Fault Refusal :=
  perform (.cb 0x04) (shiftLoc .rlc (.reg .h)) s

/-- `RLC L`, CB 05 (R315). -/
def execRlc_l (s : State) : Host.Outcome State Fault Refusal :=
  perform (.cb 0x05) (shiftLoc .rlc (.reg .l)) s

/-- `RLC (HL)`, CB 06 (R315). -/
def execRlc_at_hl (s : State) : Host.Outcome State Fault Refusal :=
  perform (.cb 0x06) (shiftLoc .rlc .atHl) s

/-- `RLC A`, CB 07 (R315). -/
def execRlc_a (s : State) : Host.Outcome State Fault Refusal :=
  perform (.cb 0x07) (shiftLoc .rlc (.reg .a)) s

/-- `RRC B`, CB 08 (R316). -/
def execRrc_b (s : State) : Host.Outcome State Fault Refusal :=
  perform (.cb 0x08) (shiftLoc .rrc (.reg .b)) s

/-- `RRC C`, CB 09 (R316). -/
def execRrc_c (s : State) : Host.Outcome State Fault Refusal :=
  perform (.cb 0x09) (shiftLoc .rrc (.reg .c)) s

/-- `RRC D`, CB 0A (R316). -/
def execRrc_d (s : State) : Host.Outcome State Fault Refusal :=
  perform (.cb 0x0A) (shiftLoc .rrc (.reg .d)) s

/-- `RRC E`, CB 0B (R316). -/
def execRrc_e (s : State) : Host.Outcome State Fault Refusal :=
  perform (.cb 0x0B) (shiftLoc .rrc (.reg .e)) s

/-- `RRC H`, CB 0C (R316). -/
def execRrc_h (s : State) : Host.Outcome State Fault Refusal :=
  perform (.cb 0x0C) (shiftLoc .rrc (.reg .h)) s

/-- `RRC L`, CB 0D (R316). -/
def execRrc_l (s : State) : Host.Outcome State Fault Refusal :=
  perform (.cb 0x0D) (shiftLoc .rrc (.reg .l)) s

/-- `RRC (HL)`, CB 0E (R316). -/
def execRrc_at_hl (s : State) : Host.Outcome State Fault Refusal :=
  perform (.cb 0x0E) (shiftLoc .rrc .atHl) s

/-- `RRC A`, CB 0F (R316). -/
def execRrc_a (s : State) : Host.Outcome State Fault Refusal :=
  perform (.cb 0x0F) (shiftLoc .rrc (.reg .a)) s

/-- `RL B`, CB 10 (R317). -/
def execRl_b (s : State) : Host.Outcome State Fault Refusal :=
  perform (.cb 0x10) (shiftLoc .rl (.reg .b)) s

/-- `RL C`, CB 11 (R317). -/
def execRl_c (s : State) : Host.Outcome State Fault Refusal :=
  perform (.cb 0x11) (shiftLoc .rl (.reg .c)) s

/-- `RL D`, CB 12 (R317). -/
def execRl_d (s : State) : Host.Outcome State Fault Refusal :=
  perform (.cb 0x12) (shiftLoc .rl (.reg .d)) s

/-- `RL E`, CB 13 (R317). -/
def execRl_e (s : State) : Host.Outcome State Fault Refusal :=
  perform (.cb 0x13) (shiftLoc .rl (.reg .e)) s

/-- `RL H`, CB 14 (R317). -/
def execRl_h (s : State) : Host.Outcome State Fault Refusal :=
  perform (.cb 0x14) (shiftLoc .rl (.reg .h)) s

/-- `RL L`, CB 15 (R317). -/
def execRl_l (s : State) : Host.Outcome State Fault Refusal :=
  perform (.cb 0x15) (shiftLoc .rl (.reg .l)) s

/-- `RL (HL)`, CB 16 (R317). -/
def execRl_at_hl (s : State) : Host.Outcome State Fault Refusal :=
  perform (.cb 0x16) (shiftLoc .rl .atHl) s

/-- `RL A`, CB 17 (R317). -/
def execRl_a (s : State) : Host.Outcome State Fault Refusal :=
  perform (.cb 0x17) (shiftLoc .rl (.reg .a)) s

/-- `RR B`, CB 18 (R318). -/
def execRr_b (s : State) : Host.Outcome State Fault Refusal :=
  perform (.cb 0x18) (shiftLoc .rr (.reg .b)) s

/-- `RR C`, CB 19 (R318). -/
def execRr_c (s : State) : Host.Outcome State Fault Refusal :=
  perform (.cb 0x19) (shiftLoc .rr (.reg .c)) s

/-- `RR D`, CB 1A (R318). -/
def execRr_d (s : State) : Host.Outcome State Fault Refusal :=
  perform (.cb 0x1A) (shiftLoc .rr (.reg .d)) s

/-- `RR E`, CB 1B (R318). -/
def execRr_e (s : State) : Host.Outcome State Fault Refusal :=
  perform (.cb 0x1B) (shiftLoc .rr (.reg .e)) s

/-- `RR H`, CB 1C (R318). -/
def execRr_h (s : State) : Host.Outcome State Fault Refusal :=
  perform (.cb 0x1C) (shiftLoc .rr (.reg .h)) s

/-- `RR L`, CB 1D (R318). -/
def execRr_l (s : State) : Host.Outcome State Fault Refusal :=
  perform (.cb 0x1D) (shiftLoc .rr (.reg .l)) s

/-- `RR (HL)`, CB 1E (R318). -/
def execRr_at_hl (s : State) : Host.Outcome State Fault Refusal :=
  perform (.cb 0x1E) (shiftLoc .rr .atHl) s

/-- `RR A`, CB 1F (R318). -/
def execRr_a (s : State) : Host.Outcome State Fault Refusal :=
  perform (.cb 0x1F) (shiftLoc .rr (.reg .a)) s

/-- `SLA B`, CB 20 (R319). -/
def execSla_b (s : State) : Host.Outcome State Fault Refusal :=
  perform (.cb 0x20) (shiftLoc .sla (.reg .b)) s

/-- `SLA C`, CB 21 (R319). -/
def execSla_c (s : State) : Host.Outcome State Fault Refusal :=
  perform (.cb 0x21) (shiftLoc .sla (.reg .c)) s

/-- `SLA D`, CB 22 (R319). -/
def execSla_d (s : State) : Host.Outcome State Fault Refusal :=
  perform (.cb 0x22) (shiftLoc .sla (.reg .d)) s

/-- `SLA E`, CB 23 (R319). -/
def execSla_e (s : State) : Host.Outcome State Fault Refusal :=
  perform (.cb 0x23) (shiftLoc .sla (.reg .e)) s

/-- `SLA H`, CB 24 (R319). -/
def execSla_h (s : State) : Host.Outcome State Fault Refusal :=
  perform (.cb 0x24) (shiftLoc .sla (.reg .h)) s

/-- `SLA L`, CB 25 (R319). -/
def execSla_l (s : State) : Host.Outcome State Fault Refusal :=
  perform (.cb 0x25) (shiftLoc .sla (.reg .l)) s

/-- `SLA (HL)`, CB 26 (R319). -/
def execSla_at_hl (s : State) : Host.Outcome State Fault Refusal :=
  perform (.cb 0x26) (shiftLoc .sla .atHl) s

/-- `SLA A`, CB 27 (R319). -/
def execSla_a (s : State) : Host.Outcome State Fault Refusal :=
  perform (.cb 0x27) (shiftLoc .sla (.reg .a)) s

/-- `SRA B`, CB 28 (R320). -/
def execSra_b (s : State) : Host.Outcome State Fault Refusal :=
  perform (.cb 0x28) (shiftLoc .sra (.reg .b)) s

/-- `SRA C`, CB 29 (R320). -/
def execSra_c (s : State) : Host.Outcome State Fault Refusal :=
  perform (.cb 0x29) (shiftLoc .sra (.reg .c)) s

/-- `SRA D`, CB 2A (R320). -/
def execSra_d (s : State) : Host.Outcome State Fault Refusal :=
  perform (.cb 0x2A) (shiftLoc .sra (.reg .d)) s

/-- `SRA E`, CB 2B (R320). -/
def execSra_e (s : State) : Host.Outcome State Fault Refusal :=
  perform (.cb 0x2B) (shiftLoc .sra (.reg .e)) s

/-- `SRA H`, CB 2C (R320). -/
def execSra_h (s : State) : Host.Outcome State Fault Refusal :=
  perform (.cb 0x2C) (shiftLoc .sra (.reg .h)) s

/-- `SRA L`, CB 2D (R320). -/
def execSra_l (s : State) : Host.Outcome State Fault Refusal :=
  perform (.cb 0x2D) (shiftLoc .sra (.reg .l)) s

/-- `SRA (HL)`, CB 2E (R320). -/
def execSra_at_hl (s : State) : Host.Outcome State Fault Refusal :=
  perform (.cb 0x2E) (shiftLoc .sra .atHl) s

/-- `SRA A`, CB 2F (R320). -/
def execSra_a (s : State) : Host.Outcome State Fault Refusal :=
  perform (.cb 0x2F) (shiftLoc .sra (.reg .a)) s

/-- `SWAP B`, CB 30 (R321). -/
def execSwap_b (s : State) : Host.Outcome State Fault Refusal :=
  perform (.cb 0x30) (shiftLoc .swap (.reg .b)) s

/-- `SWAP C`, CB 31 (R321). -/
def execSwap_c (s : State) : Host.Outcome State Fault Refusal :=
  perform (.cb 0x31) (shiftLoc .swap (.reg .c)) s

/-- `SWAP D`, CB 32 (R321). -/
def execSwap_d (s : State) : Host.Outcome State Fault Refusal :=
  perform (.cb 0x32) (shiftLoc .swap (.reg .d)) s

/-- `SWAP E`, CB 33 (R321). -/
def execSwap_e (s : State) : Host.Outcome State Fault Refusal :=
  perform (.cb 0x33) (shiftLoc .swap (.reg .e)) s

/-- `SWAP H`, CB 34 (R321). -/
def execSwap_h (s : State) : Host.Outcome State Fault Refusal :=
  perform (.cb 0x34) (shiftLoc .swap (.reg .h)) s

/-- `SWAP L`, CB 35 (R321). -/
def execSwap_l (s : State) : Host.Outcome State Fault Refusal :=
  perform (.cb 0x35) (shiftLoc .swap (.reg .l)) s

/-- `SWAP (HL)`, CB 36 (R321). -/
def execSwap_at_hl (s : State) : Host.Outcome State Fault Refusal :=
  perform (.cb 0x36) (shiftLoc .swap .atHl) s

/-- `SWAP A`, CB 37 (R321). -/
def execSwap_a (s : State) : Host.Outcome State Fault Refusal :=
  perform (.cb 0x37) (shiftLoc .swap (.reg .a)) s

/-- `SRL B`, CB 38 (R322). -/
def execSrl_b (s : State) : Host.Outcome State Fault Refusal :=
  perform (.cb 0x38) (shiftLoc .srl (.reg .b)) s

/-- `SRL C`, CB 39 (R322). -/
def execSrl_c (s : State) : Host.Outcome State Fault Refusal :=
  perform (.cb 0x39) (shiftLoc .srl (.reg .c)) s

/-- `SRL D`, CB 3A (R322). -/
def execSrl_d (s : State) : Host.Outcome State Fault Refusal :=
  perform (.cb 0x3A) (shiftLoc .srl (.reg .d)) s

/-- `SRL E`, CB 3B (R322). -/
def execSrl_e (s : State) : Host.Outcome State Fault Refusal :=
  perform (.cb 0x3B) (shiftLoc .srl (.reg .e)) s

/-- `SRL H`, CB 3C (R322). -/
def execSrl_h (s : State) : Host.Outcome State Fault Refusal :=
  perform (.cb 0x3C) (shiftLoc .srl (.reg .h)) s

/-- `SRL L`, CB 3D (R322). -/
def execSrl_l (s : State) : Host.Outcome State Fault Refusal :=
  perform (.cb 0x3D) (shiftLoc .srl (.reg .l)) s

/-- `SRL (HL)`, CB 3E (R322). -/
def execSrl_at_hl (s : State) : Host.Outcome State Fault Refusal :=
  perform (.cb 0x3E) (shiftLoc .srl .atHl) s

/-- `SRL A`, CB 3F (R322). -/
def execSrl_a (s : State) : Host.Outcome State Fault Refusal :=
  perform (.cb 0x3F) (shiftLoc .srl (.reg .a)) s

end Sys2Proof.Machine
end

