-- ==== Sys2Proof/Machine/CbBits.lean ====
section
/-! DEFINITION. BIT, RES and SET (spec/46_rotate_shift_bit.md R323 to R325), and the prefix byte itself (spec/30_encoding.md R111). -/

namespace Sys2Proof.Machine

/-- BIT b,s (R323): Z is the complement of the bit; the operand is not written. -/
def testLoc (b : Fin 8) (x : Loc) (s : State) : Access State := do
  let v ← s.readLoc x
  return s.withFlags (some (!v.getLsbD b.val)) (some false) (some true) none

/-- RES b,s (R324). -/
def resetLoc (b : Fin 8) (x : Loc) (s : State) : Access State := do
  let v ← s.readLoc x
  s.writeLoc x (clearBit v b)

/-- SET b,s (R325). -/
def setLoc (b : Fin 8) (x : Loc) (s : State) : Access State := do
  let v ← s.readLoc x
  s.writeLoc x (assertBit v b)

/-- The operation the field y selects when x = 0 (spec/30_encoding.md R111). -/
def shiftOpOf (y : BitVec 3) : ShiftOp :=
  if y = 0 then .rlc else if y = 1 then .rrc else if y = 2 then .rl else if y = 3 then .rr
  else if y = 4 then .sla else if y = 5 then .sra else if y = 6 then .swap else .srl

/-- What the sub-table does for a sub-opcode, read by its fields (spec/30_encoding.md R111). -/
def subTable (sub : Byte) (s : State) : Access State :=
  let x := locOf (fieldZ sub)
  let b : Fin 8 := (fieldY sub).toFin
  if fieldX sub = 0 then shiftLoc (shiftOpOf (fieldY sub)) x s
  else if fieldX sub = 1 then testLoc b x s
  else if fieldX sub = 2 then resetLoc b x s
  else setLoc b x s

/-- `CB prefix`, CB (R111). -/
def execCb_prefix (sub : Byte) (s : State) : Host.Outcome State Fault Refusal :=
  perform (.cb sub) (subTable sub) s

/-- `BIT 0, B`, CB 40 (R323). -/
def execBit_0_b (s : State) : Host.Outcome State Fault Refusal :=
  perform (.cb 0x40) (testLoc 0 (.reg .b)) s

/-- `BIT 0, C`, CB 41 (R323). -/
def execBit_0_c (s : State) : Host.Outcome State Fault Refusal :=
  perform (.cb 0x41) (testLoc 0 (.reg .c)) s

/-- `BIT 0, D`, CB 42 (R323). -/
def execBit_0_d (s : State) : Host.Outcome State Fault Refusal :=
  perform (.cb 0x42) (testLoc 0 (.reg .d)) s

/-- `BIT 0, E`, CB 43 (R323). -/
def execBit_0_e (s : State) : Host.Outcome State Fault Refusal :=
  perform (.cb 0x43) (testLoc 0 (.reg .e)) s

/-- `BIT 0, H`, CB 44 (R323). -/
def execBit_0_h (s : State) : Host.Outcome State Fault Refusal :=
  perform (.cb 0x44) (testLoc 0 (.reg .h)) s

/-- `BIT 0, L`, CB 45 (R323). -/
def execBit_0_l (s : State) : Host.Outcome State Fault Refusal :=
  perform (.cb 0x45) (testLoc 0 (.reg .l)) s

/-- `BIT 0, (HL)`, CB 46 (R323). -/
def execBit_0_at_hl (s : State) : Host.Outcome State Fault Refusal :=
  perform (.cb 0x46) (testLoc 0 .atHl) s

/-- `BIT 0, A`, CB 47 (R323). -/
def execBit_0_a (s : State) : Host.Outcome State Fault Refusal :=
  perform (.cb 0x47) (testLoc 0 (.reg .a)) s

/-- `BIT 1, B`, CB 48 (R323). -/
def execBit_1_b (s : State) : Host.Outcome State Fault Refusal :=
  perform (.cb 0x48) (testLoc 1 (.reg .b)) s

/-- `BIT 1, C`, CB 49 (R323). -/
def execBit_1_c (s : State) : Host.Outcome State Fault Refusal :=
  perform (.cb 0x49) (testLoc 1 (.reg .c)) s

/-- `BIT 1, D`, CB 4A (R323). -/
def execBit_1_d (s : State) : Host.Outcome State Fault Refusal :=
  perform (.cb 0x4A) (testLoc 1 (.reg .d)) s

/-- `BIT 1, E`, CB 4B (R323). -/
def execBit_1_e (s : State) : Host.Outcome State Fault Refusal :=
  perform (.cb 0x4B) (testLoc 1 (.reg .e)) s

/-- `BIT 1, H`, CB 4C (R323). -/
def execBit_1_h (s : State) : Host.Outcome State Fault Refusal :=
  perform (.cb 0x4C) (testLoc 1 (.reg .h)) s

/-- `BIT 1, L`, CB 4D (R323). -/
def execBit_1_l (s : State) : Host.Outcome State Fault Refusal :=
  perform (.cb 0x4D) (testLoc 1 (.reg .l)) s

/-- `BIT 1, (HL)`, CB 4E (R323). -/
def execBit_1_at_hl (s : State) : Host.Outcome State Fault Refusal :=
  perform (.cb 0x4E) (testLoc 1 .atHl) s

/-- `BIT 1, A`, CB 4F (R323). -/
def execBit_1_a (s : State) : Host.Outcome State Fault Refusal :=
  perform (.cb 0x4F) (testLoc 1 (.reg .a)) s

/-- `BIT 2, B`, CB 50 (R323). -/
def execBit_2_b (s : State) : Host.Outcome State Fault Refusal :=
  perform (.cb 0x50) (testLoc 2 (.reg .b)) s

/-- `BIT 2, C`, CB 51 (R323). -/
def execBit_2_c (s : State) : Host.Outcome State Fault Refusal :=
  perform (.cb 0x51) (testLoc 2 (.reg .c)) s

/-- `BIT 2, D`, CB 52 (R323). -/
def execBit_2_d (s : State) : Host.Outcome State Fault Refusal :=
  perform (.cb 0x52) (testLoc 2 (.reg .d)) s

/-- `BIT 2, E`, CB 53 (R323). -/
def execBit_2_e (s : State) : Host.Outcome State Fault Refusal :=
  perform (.cb 0x53) (testLoc 2 (.reg .e)) s

/-- `BIT 2, H`, CB 54 (R323). -/
def execBit_2_h (s : State) : Host.Outcome State Fault Refusal :=
  perform (.cb 0x54) (testLoc 2 (.reg .h)) s

/-- `BIT 2, L`, CB 55 (R323). -/
def execBit_2_l (s : State) : Host.Outcome State Fault Refusal :=
  perform (.cb 0x55) (testLoc 2 (.reg .l)) s

/-- `BIT 2, (HL)`, CB 56 (R323). -/
def execBit_2_at_hl (s : State) : Host.Outcome State Fault Refusal :=
  perform (.cb 0x56) (testLoc 2 .atHl) s

/-- `BIT 2, A`, CB 57 (R323). -/
def execBit_2_a (s : State) : Host.Outcome State Fault Refusal :=
  perform (.cb 0x57) (testLoc 2 (.reg .a)) s

/-- `BIT 3, B`, CB 58 (R323). -/
def execBit_3_b (s : State) : Host.Outcome State Fault Refusal :=
  perform (.cb 0x58) (testLoc 3 (.reg .b)) s

/-- `BIT 3, C`, CB 59 (R323). -/
def execBit_3_c (s : State) : Host.Outcome State Fault Refusal :=
  perform (.cb 0x59) (testLoc 3 (.reg .c)) s

/-- `BIT 3, D`, CB 5A (R323). -/
def execBit_3_d (s : State) : Host.Outcome State Fault Refusal :=
  perform (.cb 0x5A) (testLoc 3 (.reg .d)) s

/-- `BIT 3, E`, CB 5B (R323). -/
def execBit_3_e (s : State) : Host.Outcome State Fault Refusal :=
  perform (.cb 0x5B) (testLoc 3 (.reg .e)) s

/-- `BIT 3, H`, CB 5C (R323). -/
def execBit_3_h (s : State) : Host.Outcome State Fault Refusal :=
  perform (.cb 0x5C) (testLoc 3 (.reg .h)) s

/-- `BIT 3, L`, CB 5D (R323). -/
def execBit_3_l (s : State) : Host.Outcome State Fault Refusal :=
  perform (.cb 0x5D) (testLoc 3 (.reg .l)) s

/-- `BIT 3, (HL)`, CB 5E (R323). -/
def execBit_3_at_hl (s : State) : Host.Outcome State Fault Refusal :=
  perform (.cb 0x5E) (testLoc 3 .atHl) s

/-- `BIT 3, A`, CB 5F (R323). -/
def execBit_3_a (s : State) : Host.Outcome State Fault Refusal :=
  perform (.cb 0x5F) (testLoc 3 (.reg .a)) s

/-- `BIT 4, B`, CB 60 (R323). -/
def execBit_4_b (s : State) : Host.Outcome State Fault Refusal :=
  perform (.cb 0x60) (testLoc 4 (.reg .b)) s

/-- `BIT 4, C`, CB 61 (R323). -/
def execBit_4_c (s : State) : Host.Outcome State Fault Refusal :=
  perform (.cb 0x61) (testLoc 4 (.reg .c)) s

/-- `BIT 4, D`, CB 62 (R323). -/
def execBit_4_d (s : State) : Host.Outcome State Fault Refusal :=
  perform (.cb 0x62) (testLoc 4 (.reg .d)) s

/-- `BIT 4, E`, CB 63 (R323). -/
def execBit_4_e (s : State) : Host.Outcome State Fault Refusal :=
  perform (.cb 0x63) (testLoc 4 (.reg .e)) s

/-- `BIT 4, H`, CB 64 (R323). -/
def execBit_4_h (s : State) : Host.Outcome State Fault Refusal :=
  perform (.cb 0x64) (testLoc 4 (.reg .h)) s

/-- `BIT 4, L`, CB 65 (R323). -/
def execBit_4_l (s : State) : Host.Outcome State Fault Refusal :=
  perform (.cb 0x65) (testLoc 4 (.reg .l)) s

/-- `BIT 4, (HL)`, CB 66 (R323). -/
def execBit_4_at_hl (s : State) : Host.Outcome State Fault Refusal :=
  perform (.cb 0x66) (testLoc 4 .atHl) s

/-- `BIT 4, A`, CB 67 (R323). -/
def execBit_4_a (s : State) : Host.Outcome State Fault Refusal :=
  perform (.cb 0x67) (testLoc 4 (.reg .a)) s

/-- `BIT 5, B`, CB 68 (R323). -/
def execBit_5_b (s : State) : Host.Outcome State Fault Refusal :=
  perform (.cb 0x68) (testLoc 5 (.reg .b)) s

/-- `BIT 5, C`, CB 69 (R323). -/
def execBit_5_c (s : State) : Host.Outcome State Fault Refusal :=
  perform (.cb 0x69) (testLoc 5 (.reg .c)) s

/-- `BIT 5, D`, CB 6A (R323). -/
def execBit_5_d (s : State) : Host.Outcome State Fault Refusal :=
  perform (.cb 0x6A) (testLoc 5 (.reg .d)) s

/-- `BIT 5, E`, CB 6B (R323). -/
def execBit_5_e (s : State) : Host.Outcome State Fault Refusal :=
  perform (.cb 0x6B) (testLoc 5 (.reg .e)) s

/-- `BIT 5, H`, CB 6C (R323). -/
def execBit_5_h (s : State) : Host.Outcome State Fault Refusal :=
  perform (.cb 0x6C) (testLoc 5 (.reg .h)) s

/-- `BIT 5, L`, CB 6D (R323). -/
def execBit_5_l (s : State) : Host.Outcome State Fault Refusal :=
  perform (.cb 0x6D) (testLoc 5 (.reg .l)) s

/-- `BIT 5, (HL)`, CB 6E (R323). -/
def execBit_5_at_hl (s : State) : Host.Outcome State Fault Refusal :=
  perform (.cb 0x6E) (testLoc 5 .atHl) s

/-- `BIT 5, A`, CB 6F (R323). -/
def execBit_5_a (s : State) : Host.Outcome State Fault Refusal :=
  perform (.cb 0x6F) (testLoc 5 (.reg .a)) s

/-- `BIT 6, B`, CB 70 (R323). -/
def execBit_6_b (s : State) : Host.Outcome State Fault Refusal :=
  perform (.cb 0x70) (testLoc 6 (.reg .b)) s

/-- `BIT 6, C`, CB 71 (R323). -/
def execBit_6_c (s : State) : Host.Outcome State Fault Refusal :=
  perform (.cb 0x71) (testLoc 6 (.reg .c)) s

/-- `BIT 6, D`, CB 72 (R323). -/
def execBit_6_d (s : State) : Host.Outcome State Fault Refusal :=
  perform (.cb 0x72) (testLoc 6 (.reg .d)) s

/-- `BIT 6, E`, CB 73 (R323). -/
def execBit_6_e (s : State) : Host.Outcome State Fault Refusal :=
  perform (.cb 0x73) (testLoc 6 (.reg .e)) s

/-- `BIT 6, H`, CB 74 (R323). -/
def execBit_6_h (s : State) : Host.Outcome State Fault Refusal :=
  perform (.cb 0x74) (testLoc 6 (.reg .h)) s

/-- `BIT 6, L`, CB 75 (R323). -/
def execBit_6_l (s : State) : Host.Outcome State Fault Refusal :=
  perform (.cb 0x75) (testLoc 6 (.reg .l)) s

/-- `BIT 6, (HL)`, CB 76 (R323). -/
def execBit_6_at_hl (s : State) : Host.Outcome State Fault Refusal :=
  perform (.cb 0x76) (testLoc 6 .atHl) s

/-- `BIT 6, A`, CB 77 (R323). -/
def execBit_6_a (s : State) : Host.Outcome State Fault Refusal :=
  perform (.cb 0x77) (testLoc 6 (.reg .a)) s

/-- `BIT 7, B`, CB 78 (R323). -/
def execBit_7_b (s : State) : Host.Outcome State Fault Refusal :=
  perform (.cb 0x78) (testLoc 7 (.reg .b)) s

/-- `BIT 7, C`, CB 79 (R323). -/
def execBit_7_c (s : State) : Host.Outcome State Fault Refusal :=
  perform (.cb 0x79) (testLoc 7 (.reg .c)) s

/-- `BIT 7, D`, CB 7A (R323). -/
def execBit_7_d (s : State) : Host.Outcome State Fault Refusal :=
  perform (.cb 0x7A) (testLoc 7 (.reg .d)) s

/-- `BIT 7, E`, CB 7B (R323). -/
def execBit_7_e (s : State) : Host.Outcome State Fault Refusal :=
  perform (.cb 0x7B) (testLoc 7 (.reg .e)) s

/-- `BIT 7, H`, CB 7C (R323). -/
def execBit_7_h (s : State) : Host.Outcome State Fault Refusal :=
  perform (.cb 0x7C) (testLoc 7 (.reg .h)) s

/-- `BIT 7, L`, CB 7D (R323). -/
def execBit_7_l (s : State) : Host.Outcome State Fault Refusal :=
  perform (.cb 0x7D) (testLoc 7 (.reg .l)) s

/-- `BIT 7, (HL)`, CB 7E (R323). -/
def execBit_7_at_hl (s : State) : Host.Outcome State Fault Refusal :=
  perform (.cb 0x7E) (testLoc 7 .atHl) s

/-- `BIT 7, A`, CB 7F (R323). -/
def execBit_7_a (s : State) : Host.Outcome State Fault Refusal :=
  perform (.cb 0x7F) (testLoc 7 (.reg .a)) s

/-- `RES 0, B`, CB 80 (R324). -/
def execRes_0_b (s : State) : Host.Outcome State Fault Refusal :=
  perform (.cb 0x80) (resetLoc 0 (.reg .b)) s

/-- `RES 0, C`, CB 81 (R324). -/
def execRes_0_c (s : State) : Host.Outcome State Fault Refusal :=
  perform (.cb 0x81) (resetLoc 0 (.reg .c)) s

/-- `RES 0, D`, CB 82 (R324). -/
def execRes_0_d (s : State) : Host.Outcome State Fault Refusal :=
  perform (.cb 0x82) (resetLoc 0 (.reg .d)) s

/-- `RES 0, E`, CB 83 (R324). -/
def execRes_0_e (s : State) : Host.Outcome State Fault Refusal :=
  perform (.cb 0x83) (resetLoc 0 (.reg .e)) s

/-- `RES 0, H`, CB 84 (R324). -/
def execRes_0_h (s : State) : Host.Outcome State Fault Refusal :=
  perform (.cb 0x84) (resetLoc 0 (.reg .h)) s

/-- `RES 0, L`, CB 85 (R324). -/
def execRes_0_l (s : State) : Host.Outcome State Fault Refusal :=
  perform (.cb 0x85) (resetLoc 0 (.reg .l)) s

/-- `RES 0, (HL)`, CB 86 (R324). -/
def execRes_0_at_hl (s : State) : Host.Outcome State Fault Refusal :=
  perform (.cb 0x86) (resetLoc 0 .atHl) s

/-- `RES 0, A`, CB 87 (R324). -/
def execRes_0_a (s : State) : Host.Outcome State Fault Refusal :=
  perform (.cb 0x87) (resetLoc 0 (.reg .a)) s

/-- `RES 1, B`, CB 88 (R324). -/
def execRes_1_b (s : State) : Host.Outcome State Fault Refusal :=
  perform (.cb 0x88) (resetLoc 1 (.reg .b)) s

/-- `RES 1, C`, CB 89 (R324). -/
def execRes_1_c (s : State) : Host.Outcome State Fault Refusal :=
  perform (.cb 0x89) (resetLoc 1 (.reg .c)) s

/-- `RES 1, D`, CB 8A (R324). -/
def execRes_1_d (s : State) : Host.Outcome State Fault Refusal :=
  perform (.cb 0x8A) (resetLoc 1 (.reg .d)) s

/-- `RES 1, E`, CB 8B (R324). -/
def execRes_1_e (s : State) : Host.Outcome State Fault Refusal :=
  perform (.cb 0x8B) (resetLoc 1 (.reg .e)) s

/-- `RES 1, H`, CB 8C (R324). -/
def execRes_1_h (s : State) : Host.Outcome State Fault Refusal :=
  perform (.cb 0x8C) (resetLoc 1 (.reg .h)) s

/-- `RES 1, L`, CB 8D (R324). -/
def execRes_1_l (s : State) : Host.Outcome State Fault Refusal :=
  perform (.cb 0x8D) (resetLoc 1 (.reg .l)) s

/-- `RES 1, (HL)`, CB 8E (R324). -/
def execRes_1_at_hl (s : State) : Host.Outcome State Fault Refusal :=
  perform (.cb 0x8E) (resetLoc 1 .atHl) s

/-- `RES 1, A`, CB 8F (R324). -/
def execRes_1_a (s : State) : Host.Outcome State Fault Refusal :=
  perform (.cb 0x8F) (resetLoc 1 (.reg .a)) s

/-- `RES 2, B`, CB 90 (R324). -/
def execRes_2_b (s : State) : Host.Outcome State Fault Refusal :=
  perform (.cb 0x90) (resetLoc 2 (.reg .b)) s

/-- `RES 2, C`, CB 91 (R324). -/
def execRes_2_c (s : State) : Host.Outcome State Fault Refusal :=
  perform (.cb 0x91) (resetLoc 2 (.reg .c)) s

/-- `RES 2, D`, CB 92 (R324). -/
def execRes_2_d (s : State) : Host.Outcome State Fault Refusal :=
  perform (.cb 0x92) (resetLoc 2 (.reg .d)) s

/-- `RES 2, E`, CB 93 (R324). -/
def execRes_2_e (s : State) : Host.Outcome State Fault Refusal :=
  perform (.cb 0x93) (resetLoc 2 (.reg .e)) s

/-- `RES 2, H`, CB 94 (R324). -/
def execRes_2_h (s : State) : Host.Outcome State Fault Refusal :=
  perform (.cb 0x94) (resetLoc 2 (.reg .h)) s

/-- `RES 2, L`, CB 95 (R324). -/
def execRes_2_l (s : State) : Host.Outcome State Fault Refusal :=
  perform (.cb 0x95) (resetLoc 2 (.reg .l)) s

/-- `RES 2, (HL)`, CB 96 (R324). -/
def execRes_2_at_hl (s : State) : Host.Outcome State Fault Refusal :=
  perform (.cb 0x96) (resetLoc 2 .atHl) s

/-- `RES 2, A`, CB 97 (R324). -/
def execRes_2_a (s : State) : Host.Outcome State Fault Refusal :=
  perform (.cb 0x97) (resetLoc 2 (.reg .a)) s

/-- `RES 3, B`, CB 98 (R324). -/
def execRes_3_b (s : State) : Host.Outcome State Fault Refusal :=
  perform (.cb 0x98) (resetLoc 3 (.reg .b)) s

/-- `RES 3, C`, CB 99 (R324). -/
def execRes_3_c (s : State) : Host.Outcome State Fault Refusal :=
  perform (.cb 0x99) (resetLoc 3 (.reg .c)) s

/-- `RES 3, D`, CB 9A (R324). -/
def execRes_3_d (s : State) : Host.Outcome State Fault Refusal :=
  perform (.cb 0x9A) (resetLoc 3 (.reg .d)) s

/-- `RES 3, E`, CB 9B (R324). -/
def execRes_3_e (s : State) : Host.Outcome State Fault Refusal :=
  perform (.cb 0x9B) (resetLoc 3 (.reg .e)) s

/-- `RES 3, H`, CB 9C (R324). -/
def execRes_3_h (s : State) : Host.Outcome State Fault Refusal :=
  perform (.cb 0x9C) (resetLoc 3 (.reg .h)) s

/-- `RES 3, L`, CB 9D (R324). -/
def execRes_3_l (s : State) : Host.Outcome State Fault Refusal :=
  perform (.cb 0x9D) (resetLoc 3 (.reg .l)) s

/-- `RES 3, (HL)`, CB 9E (R324). -/
def execRes_3_at_hl (s : State) : Host.Outcome State Fault Refusal :=
  perform (.cb 0x9E) (resetLoc 3 .atHl) s

/-- `RES 3, A`, CB 9F (R324). -/
def execRes_3_a (s : State) : Host.Outcome State Fault Refusal :=
  perform (.cb 0x9F) (resetLoc 3 (.reg .a)) s

/-- `RES 4, B`, CB A0 (R324). -/
def execRes_4_b (s : State) : Host.Outcome State Fault Refusal :=
  perform (.cb 0xA0) (resetLoc 4 (.reg .b)) s

/-- `RES 4, C`, CB A1 (R324). -/
def execRes_4_c (s : State) : Host.Outcome State Fault Refusal :=
  perform (.cb 0xA1) (resetLoc 4 (.reg .c)) s

/-- `RES 4, D`, CB A2 (R324). -/
def execRes_4_d (s : State) : Host.Outcome State Fault Refusal :=
  perform (.cb 0xA2) (resetLoc 4 (.reg .d)) s

/-- `RES 4, E`, CB A3 (R324). -/
def execRes_4_e (s : State) : Host.Outcome State Fault Refusal :=
  perform (.cb 0xA3) (resetLoc 4 (.reg .e)) s

/-- `RES 4, H`, CB A4 (R324). -/
def execRes_4_h (s : State) : Host.Outcome State Fault Refusal :=
  perform (.cb 0xA4) (resetLoc 4 (.reg .h)) s

/-- `RES 4, L`, CB A5 (R324). -/
def execRes_4_l (s : State) : Host.Outcome State Fault Refusal :=
  perform (.cb 0xA5) (resetLoc 4 (.reg .l)) s

/-- `RES 4, (HL)`, CB A6 (R324). -/
def execRes_4_at_hl (s : State) : Host.Outcome State Fault Refusal :=
  perform (.cb 0xA6) (resetLoc 4 .atHl) s

/-- `RES 4, A`, CB A7 (R324). -/
def execRes_4_a (s : State) : Host.Outcome State Fault Refusal :=
  perform (.cb 0xA7) (resetLoc 4 (.reg .a)) s

/-- `RES 5, B`, CB A8 (R324). -/
def execRes_5_b (s : State) : Host.Outcome State Fault Refusal :=
  perform (.cb 0xA8) (resetLoc 5 (.reg .b)) s

/-- `RES 5, C`, CB A9 (R324). -/
def execRes_5_c (s : State) : Host.Outcome State Fault Refusal :=
  perform (.cb 0xA9) (resetLoc 5 (.reg .c)) s

/-- `RES 5, D`, CB AA (R324). -/
def execRes_5_d (s : State) : Host.Outcome State Fault Refusal :=
  perform (.cb 0xAA) (resetLoc 5 (.reg .d)) s

/-- `RES 5, E`, CB AB (R324). -/
def execRes_5_e (s : State) : Host.Outcome State Fault Refusal :=
  perform (.cb 0xAB) (resetLoc 5 (.reg .e)) s

/-- `RES 5, H`, CB AC (R324). -/
def execRes_5_h (s : State) : Host.Outcome State Fault Refusal :=
  perform (.cb 0xAC) (resetLoc 5 (.reg .h)) s

/-- `RES 5, L`, CB AD (R324). -/
def execRes_5_l (s : State) : Host.Outcome State Fault Refusal :=
  perform (.cb 0xAD) (resetLoc 5 (.reg .l)) s

/-- `RES 5, (HL)`, CB AE (R324). -/
def execRes_5_at_hl (s : State) : Host.Outcome State Fault Refusal :=
  perform (.cb 0xAE) (resetLoc 5 .atHl) s

/-- `RES 5, A`, CB AF (R324). -/
def execRes_5_a (s : State) : Host.Outcome State Fault Refusal :=
  perform (.cb 0xAF) (resetLoc 5 (.reg .a)) s

/-- `RES 6, B`, CB B0 (R324). -/
def execRes_6_b (s : State) : Host.Outcome State Fault Refusal :=
  perform (.cb 0xB0) (resetLoc 6 (.reg .b)) s

/-- `RES 6, C`, CB B1 (R324). -/
def execRes_6_c (s : State) : Host.Outcome State Fault Refusal :=
  perform (.cb 0xB1) (resetLoc 6 (.reg .c)) s

/-- `RES 6, D`, CB B2 (R324). -/
def execRes_6_d (s : State) : Host.Outcome State Fault Refusal :=
  perform (.cb 0xB2) (resetLoc 6 (.reg .d)) s

/-- `RES 6, E`, CB B3 (R324). -/
def execRes_6_e (s : State) : Host.Outcome State Fault Refusal :=
  perform (.cb 0xB3) (resetLoc 6 (.reg .e)) s

/-- `RES 6, H`, CB B4 (R324). -/
def execRes_6_h (s : State) : Host.Outcome State Fault Refusal :=
  perform (.cb 0xB4) (resetLoc 6 (.reg .h)) s

/-- `RES 6, L`, CB B5 (R324). -/
def execRes_6_l (s : State) : Host.Outcome State Fault Refusal :=
  perform (.cb 0xB5) (resetLoc 6 (.reg .l)) s

/-- `RES 6, (HL)`, CB B6 (R324). -/
def execRes_6_at_hl (s : State) : Host.Outcome State Fault Refusal :=
  perform (.cb 0xB6) (resetLoc 6 .atHl) s

/-- `RES 6, A`, CB B7 (R324). -/
def execRes_6_a (s : State) : Host.Outcome State Fault Refusal :=
  perform (.cb 0xB7) (resetLoc 6 (.reg .a)) s

/-- `RES 7, B`, CB B8 (R324). -/
def execRes_7_b (s : State) : Host.Outcome State Fault Refusal :=
  perform (.cb 0xB8) (resetLoc 7 (.reg .b)) s

/-- `RES 7, C`, CB B9 (R324). -/
def execRes_7_c (s : State) : Host.Outcome State Fault Refusal :=
  perform (.cb 0xB9) (resetLoc 7 (.reg .c)) s

/-- `RES 7, D`, CB BA (R324). -/
def execRes_7_d (s : State) : Host.Outcome State Fault Refusal :=
  perform (.cb 0xBA) (resetLoc 7 (.reg .d)) s

/-- `RES 7, E`, CB BB (R324). -/
def execRes_7_e (s : State) : Host.Outcome State Fault Refusal :=
  perform (.cb 0xBB) (resetLoc 7 (.reg .e)) s

/-- `RES 7, H`, CB BC (R324). -/
def execRes_7_h (s : State) : Host.Outcome State Fault Refusal :=
  perform (.cb 0xBC) (resetLoc 7 (.reg .h)) s

/-- `RES 7, L`, CB BD (R324). -/
def execRes_7_l (s : State) : Host.Outcome State Fault Refusal :=
  perform (.cb 0xBD) (resetLoc 7 (.reg .l)) s

/-- `RES 7, (HL)`, CB BE (R324). -/
def execRes_7_at_hl (s : State) : Host.Outcome State Fault Refusal :=
  perform (.cb 0xBE) (resetLoc 7 .atHl) s

/-- `RES 7, A`, CB BF (R324). -/
def execRes_7_a (s : State) : Host.Outcome State Fault Refusal :=
  perform (.cb 0xBF) (resetLoc 7 (.reg .a)) s

/-- `SET 0, B`, CB C0 (R325). -/
def execSet_0_b (s : State) : Host.Outcome State Fault Refusal :=
  perform (.cb 0xC0) (setLoc 0 (.reg .b)) s

/-- `SET 0, C`, CB C1 (R325). -/
def execSet_0_c (s : State) : Host.Outcome State Fault Refusal :=
  perform (.cb 0xC1) (setLoc 0 (.reg .c)) s

/-- `SET 0, D`, CB C2 (R325). -/
def execSet_0_d (s : State) : Host.Outcome State Fault Refusal :=
  perform (.cb 0xC2) (setLoc 0 (.reg .d)) s

/-- `SET 0, E`, CB C3 (R325). -/
def execSet_0_e (s : State) : Host.Outcome State Fault Refusal :=
  perform (.cb 0xC3) (setLoc 0 (.reg .e)) s

/-- `SET 0, H`, CB C4 (R325). -/
def execSet_0_h (s : State) : Host.Outcome State Fault Refusal :=
  perform (.cb 0xC4) (setLoc 0 (.reg .h)) s

/-- `SET 0, L`, CB C5 (R325). -/
def execSet_0_l (s : State) : Host.Outcome State Fault Refusal :=
  perform (.cb 0xC5) (setLoc 0 (.reg .l)) s

/-- `SET 0, (HL)`, CB C6 (R325). -/
def execSet_0_at_hl (s : State) : Host.Outcome State Fault Refusal :=
  perform (.cb 0xC6) (setLoc 0 .atHl) s

/-- `SET 0, A`, CB C7 (R325). -/
def execSet_0_a (s : State) : Host.Outcome State Fault Refusal :=
  perform (.cb 0xC7) (setLoc 0 (.reg .a)) s

/-- `SET 1, B`, CB C8 (R325). -/
def execSet_1_b (s : State) : Host.Outcome State Fault Refusal :=
  perform (.cb 0xC8) (setLoc 1 (.reg .b)) s

/-- `SET 1, C`, CB C9 (R325). -/
def execSet_1_c (s : State) : Host.Outcome State Fault Refusal :=
  perform (.cb 0xC9) (setLoc 1 (.reg .c)) s

/-- `SET 1, D`, CB CA (R325). -/
def execSet_1_d (s : State) : Host.Outcome State Fault Refusal :=
  perform (.cb 0xCA) (setLoc 1 (.reg .d)) s

/-- `SET 1, E`, CB CB (R325). -/
def execSet_1_e (s : State) : Host.Outcome State Fault Refusal :=
  perform (.cb 0xCB) (setLoc 1 (.reg .e)) s

/-- `SET 1, H`, CB CC (R325). -/
def execSet_1_h (s : State) : Host.Outcome State Fault Refusal :=
  perform (.cb 0xCC) (setLoc 1 (.reg .h)) s

/-- `SET 1, L`, CB CD (R325). -/
def execSet_1_l (s : State) : Host.Outcome State Fault Refusal :=
  perform (.cb 0xCD) (setLoc 1 (.reg .l)) s

/-- `SET 1, (HL)`, CB CE (R325). -/
def execSet_1_at_hl (s : State) : Host.Outcome State Fault Refusal :=
  perform (.cb 0xCE) (setLoc 1 .atHl) s

/-- `SET 1, A`, CB CF (R325). -/
def execSet_1_a (s : State) : Host.Outcome State Fault Refusal :=
  perform (.cb 0xCF) (setLoc 1 (.reg .a)) s

/-- `SET 2, B`, CB D0 (R325). -/
def execSet_2_b (s : State) : Host.Outcome State Fault Refusal :=
  perform (.cb 0xD0) (setLoc 2 (.reg .b)) s

/-- `SET 2, C`, CB D1 (R325). -/
def execSet_2_c (s : State) : Host.Outcome State Fault Refusal :=
  perform (.cb 0xD1) (setLoc 2 (.reg .c)) s

/-- `SET 2, D`, CB D2 (R325). -/
def execSet_2_d (s : State) : Host.Outcome State Fault Refusal :=
  perform (.cb 0xD2) (setLoc 2 (.reg .d)) s

/-- `SET 2, E`, CB D3 (R325). -/
def execSet_2_e (s : State) : Host.Outcome State Fault Refusal :=
  perform (.cb 0xD3) (setLoc 2 (.reg .e)) s

/-- `SET 2, H`, CB D4 (R325). -/
def execSet_2_h (s : State) : Host.Outcome State Fault Refusal :=
  perform (.cb 0xD4) (setLoc 2 (.reg .h)) s

/-- `SET 2, L`, CB D5 (R325). -/
def execSet_2_l (s : State) : Host.Outcome State Fault Refusal :=
  perform (.cb 0xD5) (setLoc 2 (.reg .l)) s

/-- `SET 2, (HL)`, CB D6 (R325). -/
def execSet_2_at_hl (s : State) : Host.Outcome State Fault Refusal :=
  perform (.cb 0xD6) (setLoc 2 .atHl) s

/-- `SET 2, A`, CB D7 (R325). -/
def execSet_2_a (s : State) : Host.Outcome State Fault Refusal :=
  perform (.cb 0xD7) (setLoc 2 (.reg .a)) s

/-- `SET 3, B`, CB D8 (R325). -/
def execSet_3_b (s : State) : Host.Outcome State Fault Refusal :=
  perform (.cb 0xD8) (setLoc 3 (.reg .b)) s

/-- `SET 3, C`, CB D9 (R325). -/
def execSet_3_c (s : State) : Host.Outcome State Fault Refusal :=
  perform (.cb 0xD9) (setLoc 3 (.reg .c)) s

/-- `SET 3, D`, CB DA (R325). -/
def execSet_3_d (s : State) : Host.Outcome State Fault Refusal :=
  perform (.cb 0xDA) (setLoc 3 (.reg .d)) s

/-- `SET 3, E`, CB DB (R325). -/
def execSet_3_e (s : State) : Host.Outcome State Fault Refusal :=
  perform (.cb 0xDB) (setLoc 3 (.reg .e)) s

/-- `SET 3, H`, CB DC (R325). -/
def execSet_3_h (s : State) : Host.Outcome State Fault Refusal :=
  perform (.cb 0xDC) (setLoc 3 (.reg .h)) s

/-- `SET 3, L`, CB DD (R325). -/
def execSet_3_l (s : State) : Host.Outcome State Fault Refusal :=
  perform (.cb 0xDD) (setLoc 3 (.reg .l)) s

/-- `SET 3, (HL)`, CB DE (R325). -/
def execSet_3_at_hl (s : State) : Host.Outcome State Fault Refusal :=
  perform (.cb 0xDE) (setLoc 3 .atHl) s

/-- `SET 3, A`, CB DF (R325). -/
def execSet_3_a (s : State) : Host.Outcome State Fault Refusal :=
  perform (.cb 0xDF) (setLoc 3 (.reg .a)) s

/-- `SET 4, B`, CB E0 (R325). -/
def execSet_4_b (s : State) : Host.Outcome State Fault Refusal :=
  perform (.cb 0xE0) (setLoc 4 (.reg .b)) s

/-- `SET 4, C`, CB E1 (R325). -/
def execSet_4_c (s : State) : Host.Outcome State Fault Refusal :=
  perform (.cb 0xE1) (setLoc 4 (.reg .c)) s

/-- `SET 4, D`, CB E2 (R325). -/
def execSet_4_d (s : State) : Host.Outcome State Fault Refusal :=
  perform (.cb 0xE2) (setLoc 4 (.reg .d)) s

/-- `SET 4, E`, CB E3 (R325). -/
def execSet_4_e (s : State) : Host.Outcome State Fault Refusal :=
  perform (.cb 0xE3) (setLoc 4 (.reg .e)) s

/-- `SET 4, H`, CB E4 (R325). -/
def execSet_4_h (s : State) : Host.Outcome State Fault Refusal :=
  perform (.cb 0xE4) (setLoc 4 (.reg .h)) s

/-- `SET 4, L`, CB E5 (R325). -/
def execSet_4_l (s : State) : Host.Outcome State Fault Refusal :=
  perform (.cb 0xE5) (setLoc 4 (.reg .l)) s

/-- `SET 4, (HL)`, CB E6 (R325). -/
def execSet_4_at_hl (s : State) : Host.Outcome State Fault Refusal :=
  perform (.cb 0xE6) (setLoc 4 .atHl) s

/-- `SET 4, A`, CB E7 (R325). -/
def execSet_4_a (s : State) : Host.Outcome State Fault Refusal :=
  perform (.cb 0xE7) (setLoc 4 (.reg .a)) s

/-- `SET 5, B`, CB E8 (R325). -/
def execSet_5_b (s : State) : Host.Outcome State Fault Refusal :=
  perform (.cb 0xE8) (setLoc 5 (.reg .b)) s

/-- `SET 5, C`, CB E9 (R325). -/
def execSet_5_c (s : State) : Host.Outcome State Fault Refusal :=
  perform (.cb 0xE9) (setLoc 5 (.reg .c)) s

/-- `SET 5, D`, CB EA (R325). -/
def execSet_5_d (s : State) : Host.Outcome State Fault Refusal :=
  perform (.cb 0xEA) (setLoc 5 (.reg .d)) s

/-- `SET 5, E`, CB EB (R325). -/
def execSet_5_e (s : State) : Host.Outcome State Fault Refusal :=
  perform (.cb 0xEB) (setLoc 5 (.reg .e)) s

/-- `SET 5, H`, CB EC (R325). -/
def execSet_5_h (s : State) : Host.Outcome State Fault Refusal :=
  perform (.cb 0xEC) (setLoc 5 (.reg .h)) s

/-- `SET 5, L`, CB ED (R325). -/
def execSet_5_l (s : State) : Host.Outcome State Fault Refusal :=
  perform (.cb 0xED) (setLoc 5 (.reg .l)) s

/-- `SET 5, (HL)`, CB EE (R325). -/
def execSet_5_at_hl (s : State) : Host.Outcome State Fault Refusal :=
  perform (.cb 0xEE) (setLoc 5 .atHl) s

/-- `SET 5, A`, CB EF (R325). -/
def execSet_5_a (s : State) : Host.Outcome State Fault Refusal :=
  perform (.cb 0xEF) (setLoc 5 (.reg .a)) s

/-- `SET 6, B`, CB F0 (R325). -/
def execSet_6_b (s : State) : Host.Outcome State Fault Refusal :=
  perform (.cb 0xF0) (setLoc 6 (.reg .b)) s

/-- `SET 6, C`, CB F1 (R325). -/
def execSet_6_c (s : State) : Host.Outcome State Fault Refusal :=
  perform (.cb 0xF1) (setLoc 6 (.reg .c)) s

/-- `SET 6, D`, CB F2 (R325). -/
def execSet_6_d (s : State) : Host.Outcome State Fault Refusal :=
  perform (.cb 0xF2) (setLoc 6 (.reg .d)) s

/-- `SET 6, E`, CB F3 (R325). -/
def execSet_6_e (s : State) : Host.Outcome State Fault Refusal :=
  perform (.cb 0xF3) (setLoc 6 (.reg .e)) s

/-- `SET 6, H`, CB F4 (R325). -/
def execSet_6_h (s : State) : Host.Outcome State Fault Refusal :=
  perform (.cb 0xF4) (setLoc 6 (.reg .h)) s

/-- `SET 6, L`, CB F5 (R325). -/
def execSet_6_l (s : State) : Host.Outcome State Fault Refusal :=
  perform (.cb 0xF5) (setLoc 6 (.reg .l)) s

/-- `SET 6, (HL)`, CB F6 (R325). -/
def execSet_6_at_hl (s : State) : Host.Outcome State Fault Refusal :=
  perform (.cb 0xF6) (setLoc 6 .atHl) s

/-- `SET 6, A`, CB F7 (R325). -/
def execSet_6_a (s : State) : Host.Outcome State Fault Refusal :=
  perform (.cb 0xF7) (setLoc 6 (.reg .a)) s

/-- `SET 7, B`, CB F8 (R325). -/
def execSet_7_b (s : State) : Host.Outcome State Fault Refusal :=
  perform (.cb 0xF8) (setLoc 7 (.reg .b)) s

/-- `SET 7, C`, CB F9 (R325). -/
def execSet_7_c (s : State) : Host.Outcome State Fault Refusal :=
  perform (.cb 0xF9) (setLoc 7 (.reg .c)) s

/-- `SET 7, D`, CB FA (R325). -/
def execSet_7_d (s : State) : Host.Outcome State Fault Refusal :=
  perform (.cb 0xFA) (setLoc 7 (.reg .d)) s

/-- `SET 7, E`, CB FB (R325). -/
def execSet_7_e (s : State) : Host.Outcome State Fault Refusal :=
  perform (.cb 0xFB) (setLoc 7 (.reg .e)) s

/-- `SET 7, H`, CB FC (R325). -/
def execSet_7_h (s : State) : Host.Outcome State Fault Refusal :=
  perform (.cb 0xFC) (setLoc 7 (.reg .h)) s

/-- `SET 7, L`, CB FD (R325). -/
def execSet_7_l (s : State) : Host.Outcome State Fault Refusal :=
  perform (.cb 0xFD) (setLoc 7 (.reg .l)) s

/-- `SET 7, (HL)`, CB FE (R325). -/
def execSet_7_at_hl (s : State) : Host.Outcome State Fault Refusal :=
  perform (.cb 0xFE) (setLoc 7 .atHl) s

/-- `SET 7, A`, CB FF (R325). -/
def execSet_7_a (s : State) : Host.Outcome State Fault Refusal :=
  perform (.cb 0xFF) (setLoc 7 (.reg .a)) s

end Sys2Proof.Machine
end

