-- ==== Sys2Proof/Machine/Control.lean ====
section
/-! DEFINITION. Control instructions (spec/47_control.md). -/

namespace Sys2Proof.Machine

/-- NOP (R350). -/
def nop (s : State) : Access State := .ok s

/-- HALT (R351): PC holds the address after it. -/
def halt (s : State) : Access State := .ok (s.setRun (.sleeping .halt))

/-- STOP (R352): the byte after the opcode has been fetched and is ignored. -/
def stop (_ignored : Byte) (s : State) : Access State := .ok (s.setRun (.sleeping .stop))

/-- DI and EI (R353, R354): IME changes at once. -/
def setIme (b : Bool) (s : State) : Access State := .ok (s.setIme b)

/-- `NOP`, 00 (R350). -/
def execNop (s : State) : Host.Outcome State Fault Refusal :=
  perform (.primary 0x00) nop s

/-- `STOP`, 10 (R352). -/
def execStop (x : Byte) (s : State) : Host.Outcome State Fault Refusal :=
  perform (.primary 0x10) (stop x) s

/-- `HALT`, 76 (R351). -/
def execHalt (s : State) : Host.Outcome State Fault Refusal :=
  perform (.primary 0x76) halt s

/-- `DI`, F3 (R353). -/
def execDi (s : State) : Host.Outcome State Fault Refusal :=
  perform (.primary 0xF3) (setIme false) s

/-- `EI`, FB (R354). -/
def execEi (s : State) : Host.Outcome State Fault Refusal :=
  perform (.primary 0xFB) (setIme true) s

end Sys2Proof.Machine
end

