-- ==== Sys2Proof/Machine/Illegal.lean ====
section
/-! DEFINITION. The 11 opcodes that assign no instruction (spec/30_encoding.md R114): each takes the fatal condition UnimplementedOpcode (spec/40_engine.md R140). -/

namespace Sys2Proof.Machine

/-- `illegal 0xD3`, D3 (R114). -/
def execIllegal_d3 (s : State) : Host.Outcome State Fault Refusal :=
  illegal 0xD3 s

/-- `illegal 0xDB`, DB (R114). -/
def execIllegal_db (s : State) : Host.Outcome State Fault Refusal :=
  illegal 0xDB s

/-- `illegal 0xDD`, DD (R114). -/
def execIllegal_dd (s : State) : Host.Outcome State Fault Refusal :=
  illegal 0xDD s

/-- `illegal 0xE3`, E3 (R114). -/
def execIllegal_e3 (s : State) : Host.Outcome State Fault Refusal :=
  illegal 0xE3 s

/-- `illegal 0xE4`, E4 (R114). -/
def execIllegal_e4 (s : State) : Host.Outcome State Fault Refusal :=
  illegal 0xE4 s

/-- `illegal 0xEB`, EB (R114). -/
def execIllegal_eb (s : State) : Host.Outcome State Fault Refusal :=
  illegal 0xEB s

/-- `illegal 0xEC`, EC (R114). -/
def execIllegal_ec (s : State) : Host.Outcome State Fault Refusal :=
  illegal 0xEC s

/-- `illegal 0xED`, ED (R114). -/
def execIllegal_ed (s : State) : Host.Outcome State Fault Refusal :=
  illegal 0xED s

/-- `illegal 0xF4`, F4 (R114). -/
def execIllegal_f4 (s : State) : Host.Outcome State Fault Refusal :=
  illegal 0xF4 s

/-- `illegal 0xFC`, FC (R114). -/
def execIllegal_fc (s : State) : Host.Outcome State Fault Refusal :=
  illegal 0xFC s

/-- `illegal 0xFD`, FD (R114). -/
def execIllegal_fd (s : State) : Host.Outcome State Fault Refusal :=
  illegal 0xFD s

end Sys2Proof.Machine
end

