-- ==== Sys2Proof/Machine/Jumps.lean ====
section
/-! DEFINITION. Jumps and relative branches (spec/42_jumps.md). -/

namespace Sys2Proof.Machine

/-- JR: PC, already past the displacement byte, plus the signed displacement (R190, R191). -/
def jumpRelative (e8 : Byte) (s : State) : Access State := .ok (s.setPc (s.pc + sext16 e8))

/-- JP a16 (R192, R193). -/
def jump (a16 : Word) (s : State) : Access State := .ok (s.setPc a16)

/-- JP HL (R194): no memory is read. -/
def jumpHl (s : State) : Access State := .ok (s.setPc s.hl)

/-- `JR e8`, 18 (R190). -/
def execJr_e8 (e8 : Byte) (s : State) : Host.Outcome State Fault Refusal :=
  perform (.primary 0x18) (jumpRelative e8) s

/-- `JR NZ, e8`, 20 (R191). -/
def execJr_nz_e8 (e8 : Byte) (s : State) : Host.Outcome State Fault Refusal :=
  performIf (.primary 0x20) (s.cond .nz) (jumpRelative e8) s

/-- `JR Z, e8`, 28 (R191). -/
def execJr_z_e8 (e8 : Byte) (s : State) : Host.Outcome State Fault Refusal :=
  performIf (.primary 0x28) (s.cond .z) (jumpRelative e8) s

/-- `JR NC, e8`, 30 (R191). -/
def execJr_nc_e8 (e8 : Byte) (s : State) : Host.Outcome State Fault Refusal :=
  performIf (.primary 0x30) (s.cond .nc) (jumpRelative e8) s

/-- `JR C, e8`, 38 (R191). -/
def execJr_c_e8 (e8 : Byte) (s : State) : Host.Outcome State Fault Refusal :=
  performIf (.primary 0x38) (s.cond .c) (jumpRelative e8) s

/-- `JP NZ, a16`, C2 (R193). -/
def execJp_nz_a16 (a16 : Word) (s : State) : Host.Outcome State Fault Refusal :=
  performIf (.primary 0xC2) (s.cond .nz) (jump a16) s

/-- `JP a16`, C3 (R192). -/
def execJp_a16 (a16 : Word) (s : State) : Host.Outcome State Fault Refusal :=
  perform (.primary 0xC3) (jump a16) s

/-- `JP Z, a16`, CA (R193). -/
def execJp_z_a16 (a16 : Word) (s : State) : Host.Outcome State Fault Refusal :=
  performIf (.primary 0xCA) (s.cond .z) (jump a16) s

/-- `JP NC, a16`, D2 (R193). -/
def execJp_nc_a16 (a16 : Word) (s : State) : Host.Outcome State Fault Refusal :=
  performIf (.primary 0xD2) (s.cond .nc) (jump a16) s

/-- `JP C, a16`, DA (R193). -/
def execJp_c_a16 (a16 : Word) (s : State) : Host.Outcome State Fault Refusal :=
  performIf (.primary 0xDA) (s.cond .c) (jump a16) s

/-- `JP HL`, E9 (R194). -/
def execJp_hl (s : State) : Host.Outcome State Fault Refusal :=
  perform (.primary 0xE9) jumpHl s

end Sys2Proof.Machine
end

