-- ==== Sys2Proof/Machine/Loads.lean ====
section
/-! DEFINITION. Loads and stores (spec/45_loads.md). -/

namespace Sys2Proof.Machine

/-- `r <- s`: LD r,r'; LD r,d8; LD r,(HL) (R270 to R272). The operand is read before the register is written. -/
def loadReg (r : Reg8) (x : Src) (s : State) : Access State := do
  let v ← s.readSrc x
  return s.setReg r v

/-- `MemWrite(HL, 1, s)`: LD (HL),r; LD (HL),d8 (R273, R274). -/
def storeHl (x : Src) (s : State) : Access State := do
  let v ← s.readSrc x
  s.write8 s.hl v

/-- A load of A through an addressing mode (R275, R276, R279, R281, R283, R287, R288). -/
def loadA (m : Mode) (s : State) : Access State := do
  let v ← s.read8 (s.address m)
  return (s.setReg .a v).modify m

/-- A store of A through an addressing mode (R277, R278, R280, R282, R284 to R286). -/
def storeA (m : Mode) (s : State) : Access State := do
  let t ← s.write8 (s.address m) s.a
  return t.modify m

/-- LD rr,d16 (R289). -/
def loadPair (p : PairSp) (v : Word) (s : State) : Access State := .ok (s.setPairSp p v)

/-- LD (a16),SP (R290): the low byte at a16, the high byte at the next address modulo 2^16. -/
def storeSp (a16 : Word) (s : State) : Access State := s.write16 a16 s.sp

/-- LD SP,HL (R291). -/
def loadSpHl (s : State) : Access State := .ok (s.setSp s.hl)

/-- LD HL,SP+e8 (R292). -/
def loadHlSp (e8 : Byte) (s : State) : Access State :=
  let sum := spAdd s.sp e8
  .ok ((s.setHl sum.r).withFlags (some false) (some false) (some sum.h) (some sum.cy))

/-- `LD BC, d16`, 01 (R289). -/
def execLd_bc_d16 (d16 : Word) (s : State) : Host.Outcome State Fault Refusal :=
  perform (.primary 0x01) (loadPair .bc d16) s

/-- `LD (BC), A`, 02 (R277). -/
def execLd_at_bc_a (s : State) : Host.Outcome State Fault Refusal :=
  perform (.primary 0x02) (storeA .bc) s

/-- `LD B, d8`, 06 (R271). -/
def execLd_b_d8 (d8 : Byte) (s : State) : Host.Outcome State Fault Refusal :=
  perform (.primary 0x06) (loadReg .b (.imm d8)) s

/-- `LD (a16), SP`, 08 (R290). -/
def execLd_at_a16_sp (a16 : Word) (s : State) : Host.Outcome State Fault Refusal :=
  perform (.primary 0x08) (storeSp a16) s

/-- `LD A, (BC)`, 0A (R275). -/
def execLd_a_at_bc (s : State) : Host.Outcome State Fault Refusal :=
  perform (.primary 0x0A) (loadA .bc) s

/-- `LD C, d8`, 0E (R271). -/
def execLd_c_d8 (d8 : Byte) (s : State) : Host.Outcome State Fault Refusal :=
  perform (.primary 0x0E) (loadReg .c (.imm d8)) s

/-- `LD DE, d16`, 11 (R289). -/
def execLd_de_d16 (d16 : Word) (s : State) : Host.Outcome State Fault Refusal :=
  perform (.primary 0x11) (loadPair .de d16) s

/-- `LD (DE), A`, 12 (R278). -/
def execLd_at_de_a (s : State) : Host.Outcome State Fault Refusal :=
  perform (.primary 0x12) (storeA .de) s

/-- `LD D, d8`, 16 (R271). -/
def execLd_d_d8 (d8 : Byte) (s : State) : Host.Outcome State Fault Refusal :=
  perform (.primary 0x16) (loadReg .d (.imm d8)) s

/-- `LD A, (DE)`, 1A (R276). -/
def execLd_a_at_de (s : State) : Host.Outcome State Fault Refusal :=
  perform (.primary 0x1A) (loadA .de) s

/-- `LD E, d8`, 1E (R271). -/
def execLd_e_d8 (d8 : Byte) (s : State) : Host.Outcome State Fault Refusal :=
  perform (.primary 0x1E) (loadReg .e (.imm d8)) s

/-- `LD HL, d16`, 21 (R289). -/
def execLd_hl_d16 (d16 : Word) (s : State) : Host.Outcome State Fault Refusal :=
  perform (.primary 0x21) (loadPair .hl d16) s

/-- `LD (HL+), A`, 22 (R285). -/
def execLd_at_hl_inc_a (s : State) : Host.Outcome State Fault Refusal :=
  perform (.primary 0x22) (storeA .hlInc) s

/-- `LD H, d8`, 26 (R271). -/
def execLd_h_d8 (d8 : Byte) (s : State) : Host.Outcome State Fault Refusal :=
  perform (.primary 0x26) (loadReg .h (.imm d8)) s

/-- `LD A, (HL+)`, 2A (R287). -/
def execLd_a_at_hl_inc (s : State) : Host.Outcome State Fault Refusal :=
  perform (.primary 0x2A) (loadA .hlInc) s

/-- `LD L, d8`, 2E (R271). -/
def execLd_l_d8 (d8 : Byte) (s : State) : Host.Outcome State Fault Refusal :=
  perform (.primary 0x2E) (loadReg .l (.imm d8)) s

/-- `LD SP, d16`, 31 (R289). -/
def execLd_sp_d16 (d16 : Word) (s : State) : Host.Outcome State Fault Refusal :=
  perform (.primary 0x31) (loadPair .sp d16) s

/-- `LD (HL-), A`, 32 (R286). -/
def execLd_at_hl_dec_a (s : State) : Host.Outcome State Fault Refusal :=
  perform (.primary 0x32) (storeA .hlDec) s

/-- `LD (HL), d8`, 36 (R274). -/
def execLd_at_hl_d8 (d8 : Byte) (s : State) : Host.Outcome State Fault Refusal :=
  perform (.primary 0x36) (storeHl (.imm d8)) s

/-- `LD A, (HL-)`, 3A (R288). -/
def execLd_a_at_hl_dec (s : State) : Host.Outcome State Fault Refusal :=
  perform (.primary 0x3A) (loadA .hlDec) s

/-- `LD A, d8`, 3E (R271). -/
def execLd_a_d8 (d8 : Byte) (s : State) : Host.Outcome State Fault Refusal :=
  perform (.primary 0x3E) (loadReg .a (.imm d8)) s

/-- `LD B, B`, 40 (R270). -/
def execLd_b_b (s : State) : Host.Outcome State Fault Refusal :=
  perform (.primary 0x40) (loadReg .b (.loc (.reg .b))) s

/-- `LD B, C`, 41 (R270). -/
def execLd_b_c (s : State) : Host.Outcome State Fault Refusal :=
  perform (.primary 0x41) (loadReg .b (.loc (.reg .c))) s

/-- `LD B, D`, 42 (R270). -/
def execLd_b_d (s : State) : Host.Outcome State Fault Refusal :=
  perform (.primary 0x42) (loadReg .b (.loc (.reg .d))) s

/-- `LD B, E`, 43 (R270). -/
def execLd_b_e (s : State) : Host.Outcome State Fault Refusal :=
  perform (.primary 0x43) (loadReg .b (.loc (.reg .e))) s

/-- `LD B, H`, 44 (R270). -/
def execLd_b_h (s : State) : Host.Outcome State Fault Refusal :=
  perform (.primary 0x44) (loadReg .b (.loc (.reg .h))) s

/-- `LD B, L`, 45 (R270). -/
def execLd_b_l (s : State) : Host.Outcome State Fault Refusal :=
  perform (.primary 0x45) (loadReg .b (.loc (.reg .l))) s

/-- `LD B, (HL)`, 46 (R272). -/
def execLd_b_at_hl (s : State) : Host.Outcome State Fault Refusal :=
  perform (.primary 0x46) (loadReg .b (.loc .atHl)) s

/-- `LD B, A`, 47 (R270). -/
def execLd_b_a (s : State) : Host.Outcome State Fault Refusal :=
  perform (.primary 0x47) (loadReg .b (.loc (.reg .a))) s

/-- `LD C, B`, 48 (R270). -/
def execLd_c_b (s : State) : Host.Outcome State Fault Refusal :=
  perform (.primary 0x48) (loadReg .c (.loc (.reg .b))) s

/-- `LD C, C`, 49 (R270). -/
def execLd_c_c (s : State) : Host.Outcome State Fault Refusal :=
  perform (.primary 0x49) (loadReg .c (.loc (.reg .c))) s

/-- `LD C, D`, 4A (R270). -/
def execLd_c_d (s : State) : Host.Outcome State Fault Refusal :=
  perform (.primary 0x4A) (loadReg .c (.loc (.reg .d))) s

/-- `LD C, E`, 4B (R270). -/
def execLd_c_e (s : State) : Host.Outcome State Fault Refusal :=
  perform (.primary 0x4B) (loadReg .c (.loc (.reg .e))) s

/-- `LD C, H`, 4C (R270). -/
def execLd_c_h (s : State) : Host.Outcome State Fault Refusal :=
  perform (.primary 0x4C) (loadReg .c (.loc (.reg .h))) s

/-- `LD C, L`, 4D (R270). -/
def execLd_c_l (s : State) : Host.Outcome State Fault Refusal :=
  perform (.primary 0x4D) (loadReg .c (.loc (.reg .l))) s

/-- `LD C, (HL)`, 4E (R272). -/
def execLd_c_at_hl (s : State) : Host.Outcome State Fault Refusal :=
  perform (.primary 0x4E) (loadReg .c (.loc .atHl)) s

/-- `LD C, A`, 4F (R270). -/
def execLd_c_a (s : State) : Host.Outcome State Fault Refusal :=
  perform (.primary 0x4F) (loadReg .c (.loc (.reg .a))) s

/-- `LD D, B`, 50 (R270). -/
def execLd_d_b (s : State) : Host.Outcome State Fault Refusal :=
  perform (.primary 0x50) (loadReg .d (.loc (.reg .b))) s

/-- `LD D, C`, 51 (R270). -/
def execLd_d_c (s : State) : Host.Outcome State Fault Refusal :=
  perform (.primary 0x51) (loadReg .d (.loc (.reg .c))) s

/-- `LD D, D`, 52 (R270). -/
def execLd_d_d (s : State) : Host.Outcome State Fault Refusal :=
  perform (.primary 0x52) (loadReg .d (.loc (.reg .d))) s

/-- `LD D, E`, 53 (R270). -/
def execLd_d_e (s : State) : Host.Outcome State Fault Refusal :=
  perform (.primary 0x53) (loadReg .d (.loc (.reg .e))) s

/-- `LD D, H`, 54 (R270). -/
def execLd_d_h (s : State) : Host.Outcome State Fault Refusal :=
  perform (.primary 0x54) (loadReg .d (.loc (.reg .h))) s

/-- `LD D, L`, 55 (R270). -/
def execLd_d_l (s : State) : Host.Outcome State Fault Refusal :=
  perform (.primary 0x55) (loadReg .d (.loc (.reg .l))) s

/-- `LD D, (HL)`, 56 (R272). -/
def execLd_d_at_hl (s : State) : Host.Outcome State Fault Refusal :=
  perform (.primary 0x56) (loadReg .d (.loc .atHl)) s

/-- `LD D, A`, 57 (R270). -/
def execLd_d_a (s : State) : Host.Outcome State Fault Refusal :=
  perform (.primary 0x57) (loadReg .d (.loc (.reg .a))) s

/-- `LD E, B`, 58 (R270). -/
def execLd_e_b (s : State) : Host.Outcome State Fault Refusal :=
  perform (.primary 0x58) (loadReg .e (.loc (.reg .b))) s

/-- `LD E, C`, 59 (R270). -/
def execLd_e_c (s : State) : Host.Outcome State Fault Refusal :=
  perform (.primary 0x59) (loadReg .e (.loc (.reg .c))) s

/-- `LD E, D`, 5A (R270). -/
def execLd_e_d (s : State) : Host.Outcome State Fault Refusal :=
  perform (.primary 0x5A) (loadReg .e (.loc (.reg .d))) s

/-- `LD E, E`, 5B (R270). -/
def execLd_e_e (s : State) : Host.Outcome State Fault Refusal :=
  perform (.primary 0x5B) (loadReg .e (.loc (.reg .e))) s

/-- `LD E, H`, 5C (R270). -/
def execLd_e_h (s : State) : Host.Outcome State Fault Refusal :=
  perform (.primary 0x5C) (loadReg .e (.loc (.reg .h))) s

/-- `LD E, L`, 5D (R270). -/
def execLd_e_l (s : State) : Host.Outcome State Fault Refusal :=
  perform (.primary 0x5D) (loadReg .e (.loc (.reg .l))) s

/-- `LD E, (HL)`, 5E (R272). -/
def execLd_e_at_hl (s : State) : Host.Outcome State Fault Refusal :=
  perform (.primary 0x5E) (loadReg .e (.loc .atHl)) s

/-- `LD E, A`, 5F (R270). -/
def execLd_e_a (s : State) : Host.Outcome State Fault Refusal :=
  perform (.primary 0x5F) (loadReg .e (.loc (.reg .a))) s

/-- `LD H, B`, 60 (R270). -/
def execLd_h_b (s : State) : Host.Outcome State Fault Refusal :=
  perform (.primary 0x60) (loadReg .h (.loc (.reg .b))) s

/-- `LD H, C`, 61 (R270). -/
def execLd_h_c (s : State) : Host.Outcome State Fault Refusal :=
  perform (.primary 0x61) (loadReg .h (.loc (.reg .c))) s

/-- `LD H, D`, 62 (R270). -/
def execLd_h_d (s : State) : Host.Outcome State Fault Refusal :=
  perform (.primary 0x62) (loadReg .h (.loc (.reg .d))) s

/-- `LD H, E`, 63 (R270). -/
def execLd_h_e (s : State) : Host.Outcome State Fault Refusal :=
  perform (.primary 0x63) (loadReg .h (.loc (.reg .e))) s

/-- `LD H, H`, 64 (R270). -/
def execLd_h_h (s : State) : Host.Outcome State Fault Refusal :=
  perform (.primary 0x64) (loadReg .h (.loc (.reg .h))) s

/-- `LD H, L`, 65 (R270). -/
def execLd_h_l (s : State) : Host.Outcome State Fault Refusal :=
  perform (.primary 0x65) (loadReg .h (.loc (.reg .l))) s

/-- `LD H, (HL)`, 66 (R272). -/
def execLd_h_at_hl (s : State) : Host.Outcome State Fault Refusal :=
  perform (.primary 0x66) (loadReg .h (.loc .atHl)) s

/-- `LD H, A`, 67 (R270). -/
def execLd_h_a (s : State) : Host.Outcome State Fault Refusal :=
  perform (.primary 0x67) (loadReg .h (.loc (.reg .a))) s

/-- `LD L, B`, 68 (R270). -/
def execLd_l_b (s : State) : Host.Outcome State Fault Refusal :=
  perform (.primary 0x68) (loadReg .l (.loc (.reg .b))) s

/-- `LD L, C`, 69 (R270). -/
def execLd_l_c (s : State) : Host.Outcome State Fault Refusal :=
  perform (.primary 0x69) (loadReg .l (.loc (.reg .c))) s

/-- `LD L, D`, 6A (R270). -/
def execLd_l_d (s : State) : Host.Outcome State Fault Refusal :=
  perform (.primary 0x6A) (loadReg .l (.loc (.reg .d))) s

/-- `LD L, E`, 6B (R270). -/
def execLd_l_e (s : State) : Host.Outcome State Fault Refusal :=
  perform (.primary 0x6B) (loadReg .l (.loc (.reg .e))) s

/-- `LD L, H`, 6C (R270). -/
def execLd_l_h (s : State) : Host.Outcome State Fault Refusal :=
  perform (.primary 0x6C) (loadReg .l (.loc (.reg .h))) s

/-- `LD L, L`, 6D (R270). -/
def execLd_l_l (s : State) : Host.Outcome State Fault Refusal :=
  perform (.primary 0x6D) (loadReg .l (.loc (.reg .l))) s

/-- `LD L, (HL)`, 6E (R272). -/
def execLd_l_at_hl (s : State) : Host.Outcome State Fault Refusal :=
  perform (.primary 0x6E) (loadReg .l (.loc .atHl)) s

/-- `LD L, A`, 6F (R270). -/
def execLd_l_a (s : State) : Host.Outcome State Fault Refusal :=
  perform (.primary 0x6F) (loadReg .l (.loc (.reg .a))) s

/-- `LD (HL), B`, 70 (R273). -/
def execLd_at_hl_b (s : State) : Host.Outcome State Fault Refusal :=
  perform (.primary 0x70) (storeHl (.loc (.reg .b))) s

/-- `LD (HL), C`, 71 (R273). -/
def execLd_at_hl_c (s : State) : Host.Outcome State Fault Refusal :=
  perform (.primary 0x71) (storeHl (.loc (.reg .c))) s

/-- `LD (HL), D`, 72 (R273). -/
def execLd_at_hl_d (s : State) : Host.Outcome State Fault Refusal :=
  perform (.primary 0x72) (storeHl (.loc (.reg .d))) s

/-- `LD (HL), E`, 73 (R273). -/
def execLd_at_hl_e (s : State) : Host.Outcome State Fault Refusal :=
  perform (.primary 0x73) (storeHl (.loc (.reg .e))) s

/-- `LD (HL), H`, 74 (R273). -/
def execLd_at_hl_h (s : State) : Host.Outcome State Fault Refusal :=
  perform (.primary 0x74) (storeHl (.loc (.reg .h))) s

/-- `LD (HL), L`, 75 (R273). -/
def execLd_at_hl_l (s : State) : Host.Outcome State Fault Refusal :=
  perform (.primary 0x75) (storeHl (.loc (.reg .l))) s

/-- `LD (HL), A`, 77 (R273). -/
def execLd_at_hl_a (s : State) : Host.Outcome State Fault Refusal :=
  perform (.primary 0x77) (storeHl (.loc (.reg .a))) s

/-- `LD A, B`, 78 (R270). -/
def execLd_a_b (s : State) : Host.Outcome State Fault Refusal :=
  perform (.primary 0x78) (loadReg .a (.loc (.reg .b))) s

/-- `LD A, C`, 79 (R270). -/
def execLd_a_c (s : State) : Host.Outcome State Fault Refusal :=
  perform (.primary 0x79) (loadReg .a (.loc (.reg .c))) s

/-- `LD A, D`, 7A (R270). -/
def execLd_a_d (s : State) : Host.Outcome State Fault Refusal :=
  perform (.primary 0x7A) (loadReg .a (.loc (.reg .d))) s

/-- `LD A, E`, 7B (R270). -/
def execLd_a_e (s : State) : Host.Outcome State Fault Refusal :=
  perform (.primary 0x7B) (loadReg .a (.loc (.reg .e))) s

/-- `LD A, H`, 7C (R270). -/
def execLd_a_h (s : State) : Host.Outcome State Fault Refusal :=
  perform (.primary 0x7C) (loadReg .a (.loc (.reg .h))) s

/-- `LD A, L`, 7D (R270). -/
def execLd_a_l (s : State) : Host.Outcome State Fault Refusal :=
  perform (.primary 0x7D) (loadReg .a (.loc (.reg .l))) s

/-- `LD A, (HL)`, 7E (R272). -/
def execLd_a_at_hl (s : State) : Host.Outcome State Fault Refusal :=
  perform (.primary 0x7E) (loadReg .a (.loc .atHl)) s

/-- `LD A, A`, 7F (R270). -/
def execLd_a_a (s : State) : Host.Outcome State Fault Refusal :=
  perform (.primary 0x7F) (loadReg .a (.loc (.reg .a))) s

/-- `LDH (a8), A`, E0 (R282). -/
def execLdh_at_a8_a (a8 : Byte) (s : State) : Host.Outcome State Fault Refusal :=
  perform (.primary 0xE0) (storeA (.high a8)) s

/-- `LD (C), A`, E2 (R284). -/
def execLd_at_c_a (s : State) : Host.Outcome State Fault Refusal :=
  perform (.primary 0xE2) (storeA .highC) s

/-- `LD (a16), A`, EA (R280). -/
def execLd_at_a16_a (a16 : Word) (s : State) : Host.Outcome State Fault Refusal :=
  perform (.primary 0xEA) (storeA (.abs a16)) s

/-- `LDH A, (a8)`, F0 (R281). -/
def execLdh_a_at_a8 (a8 : Byte) (s : State) : Host.Outcome State Fault Refusal :=
  perform (.primary 0xF0) (loadA (.high a8)) s

/-- `LD A, (C)`, F2 (R283). -/
def execLd_a_at_c (s : State) : Host.Outcome State Fault Refusal :=
  perform (.primary 0xF2) (loadA .highC) s

/-- `LD HL, SP+e8`, F8 (R292). -/
def execLd_hl_sp_e8 (e8 : Byte) (s : State) : Host.Outcome State Fault Refusal :=
  perform (.primary 0xF8) (loadHlSp e8) s

/-- `LD SP, HL`, F9 (R291). -/
def execLd_sp_hl (s : State) : Host.Outcome State Fault Refusal :=
  perform (.primary 0xF9) loadSpHl s

/-- `LD A, (a16)`, FA (R279). -/
def execLd_a_at_a16 (a16 : Word) (s : State) : Host.Outcome State Fault Refusal :=
  perform (.primary 0xFA) (loadA (.abs a16)) s

end Sys2Proof.Machine
end

