-- ==== Sys2Proof/Machine/Rotates.lean ====
section
/-! DEFINITION. The accumulator rotates RLCA, RLA, RRCA, RRA (spec/46_rotate_shift_bit.md R310 to R313). -/

namespace Sys2Proof.Machine

/-- A is rotated; Z, N and H are cleared whatever the result, and C takes the bit shifted out (R310 to R313). -/
def shiftA (op : ShiftOp) (s : State) : Access State :=
  let x := shift op s.a (s.flag .c)
  .ok ((s.setReg .a x.1).withFlags (some false) (some false) (some false) (some x.2))

/-- `RLCA`, 07 (R310). -/
def execRlca (s : State) : Host.Outcome State Fault Refusal :=
  perform (.primary 0x07) (shiftA .rlc) s

/-- `RRCA`, 0F (R312). -/
def execRrca (s : State) : Host.Outcome State Fault Refusal :=
  perform (.primary 0x0F) (shiftA .rrc) s

/-- `RLA`, 17 (R311). -/
def execRla (s : State) : Host.Outcome State Fault Refusal :=
  perform (.primary 0x17) (shiftA .rl) s

/-- `RRA`, 1F (R313). -/
def execRra (s : State) : Host.Outcome State Fault Refusal :=
  perform (.primary 0x1F) (shiftA .rr) s

end Sys2Proof.Machine
end

