-- ==== Sys2Proof/Machine/Stack.lean ====
section
/-! DEFINITION. Stack, call and return instructions (spec/41_stack_calls.md). -/

namespace Sys2Proof.Machine

/-- PUSH rr (R164). -/
def pushPair (p : PairAf) (s : State) : Access State := s.push16 (s.pairAf p)

/-- POP rr and POP AF (R165, R166). -/
def popPair (p : PairAf) (s : State) : Access State := do
  let (v, t) ← s.pop16
  return t.setPairAf p v

/-- CALL and RST (R167, R168, R172): PC, already past the instruction, is pushed; then PC is the target. -/
def call (target : Word) (s : State) : Access State := do
  let t ← s.push16 s.pc
  return t.setPc target

/-- RET (R169, R170). -/
def ret (s : State) : Access State := do
  let (v, t) ← s.pop16
  return t.setPc v

/-- RETI (R171): RET, then IME is set at once. -/
def retEnable (s : State) : Access State := do
  let (v, t) ← s.pop16
  return (t.setPc v).setIme true

/-- `RET NZ`, C0 (R170). -/
def execRet_nz (s : State) : Host.Outcome State Fault Refusal :=
  performIf (.primary 0xC0) (s.cond .nz) ret s

/-- `POP BC`, C1 (R165). -/
def execPop_bc (s : State) : Host.Outcome State Fault Refusal :=
  perform (.primary 0xC1) (popPair .bc) s

/-- `CALL NZ, a16`, C4 (R168). -/
def execCall_nz_a16 (a16 : Word) (s : State) : Host.Outcome State Fault Refusal :=
  performIf (.primary 0xC4) (s.cond .nz) (call a16) s

/-- `PUSH BC`, C5 (R164). -/
def execPush_bc (s : State) : Host.Outcome State Fault Refusal :=
  perform (.primary 0xC5) (pushPair .bc) s

/-- `RST 0x00`, C7 (R172). -/
def execRst_00 (s : State) : Host.Outcome State Fault Refusal :=
  perform (.primary 0xC7) (call 0x0000) s

/-- `RET Z`, C8 (R170). -/
def execRet_z (s : State) : Host.Outcome State Fault Refusal :=
  performIf (.primary 0xC8) (s.cond .z) ret s

/-- `RET`, C9 (R169). -/
def execRet (s : State) : Host.Outcome State Fault Refusal :=
  perform (.primary 0xC9) ret s

/-- `CALL Z, a16`, CC (R168). -/
def execCall_z_a16 (a16 : Word) (s : State) : Host.Outcome State Fault Refusal :=
  performIf (.primary 0xCC) (s.cond .z) (call a16) s

/-- `CALL a16`, CD (R167). -/
def execCall_a16 (a16 : Word) (s : State) : Host.Outcome State Fault Refusal :=
  perform (.primary 0xCD) (call a16) s

/-- `RST 0x08`, CF (R172). -/
def execRst_08 (s : State) : Host.Outcome State Fault Refusal :=
  perform (.primary 0xCF) (call 0x0008) s

/-- `RET NC`, D0 (R170). -/
def execRet_nc (s : State) : Host.Outcome State Fault Refusal :=
  performIf (.primary 0xD0) (s.cond .nc) ret s

/-- `POP DE`, D1 (R165). -/
def execPop_de (s : State) : Host.Outcome State Fault Refusal :=
  perform (.primary 0xD1) (popPair .de) s

/-- `CALL NC, a16`, D4 (R168). -/
def execCall_nc_a16 (a16 : Word) (s : State) : Host.Outcome State Fault Refusal :=
  performIf (.primary 0xD4) (s.cond .nc) (call a16) s

/-- `PUSH DE`, D5 (R164). -/
def execPush_de (s : State) : Host.Outcome State Fault Refusal :=
  perform (.primary 0xD5) (pushPair .de) s

/-- `RST 0x10`, D7 (R172). -/
def execRst_10 (s : State) : Host.Outcome State Fault Refusal :=
  perform (.primary 0xD7) (call 0x0010) s

/-- `RET C`, D8 (R170). -/
def execRet_c (s : State) : Host.Outcome State Fault Refusal :=
  performIf (.primary 0xD8) (s.cond .c) ret s

/-- `RETI`, D9 (R171). -/
def execReti (s : State) : Host.Outcome State Fault Refusal :=
  perform (.primary 0xD9) retEnable s

/-- `CALL C, a16`, DC (R168). -/
def execCall_c_a16 (a16 : Word) (s : State) : Host.Outcome State Fault Refusal :=
  performIf (.primary 0xDC) (s.cond .c) (call a16) s

/-- `RST 0x18`, DF (R172). -/
def execRst_18 (s : State) : Host.Outcome State Fault Refusal :=
  perform (.primary 0xDF) (call 0x0018) s

/-- `POP HL`, E1 (R165). -/
def execPop_hl (s : State) : Host.Outcome State Fault Refusal :=
  perform (.primary 0xE1) (popPair .hl) s

/-- `PUSH HL`, E5 (R164). -/
def execPush_hl (s : State) : Host.Outcome State Fault Refusal :=
  perform (.primary 0xE5) (pushPair .hl) s

/-- `RST 0x20`, E7 (R172). -/
def execRst_20 (s : State) : Host.Outcome State Fault Refusal :=
  perform (.primary 0xE7) (call 0x0020) s

/-- `RST 0x28`, EF (R172). -/
def execRst_28 (s : State) : Host.Outcome State Fault Refusal :=
  perform (.primary 0xEF) (call 0x0028) s

/-- `POP AF`, F1 (R166). -/
def execPop_af (s : State) : Host.Outcome State Fault Refusal :=
  perform (.primary 0xF1) (popPair .af) s

/-- `PUSH AF`, F5 (R164). -/
def execPush_af (s : State) : Host.Outcome State Fault Refusal :=
  perform (.primary 0xF5) (pushPair .af) s

/-- `RST 0x30`, F7 (R172). -/
def execRst_30 (s : State) : Host.Outcome State Fault Refusal :=
  perform (.primary 0xF7) (call 0x0030) s

/-- `RST 0x38`, FF (R172). -/
def execRst_38 (s : State) : Host.Outcome State Fault Refusal :=
  perform (.primary 0xFF) (call 0x0038) s

end Sys2Proof.Machine
end

