-- ==== Sys2Proof/Machine/Fetch.lean ====
section
/-! DEFINITION. Fetching and decoding the instruction at PC (spec/40_engine.md R132 to R134, R140, R142), with the order of
conditions of spec/60_exceptions.md R372. -/

namespace Sys2Proof.Machine

/-- What fetching at PC gives: an instruction, or the fatal condition that ends the step. -/
inductive Fetched where
  | instr (i : Instr)
  | fatal (r : FaultRecord)
deriving DecidableEq, Repr

/-- The operand bytes of an entry are fetched after its opcode (R134); `s` is the state past the opcode byte. -/
def fetchOperand (e : Entry) (s : State) : Fetched :=
  match e with
  | .bare i => .instr i
  | .byte f =>
    match s.fetch8 with
    | .ok (v, _) => .instr (f v)
    | .error x => .fatal (.outOfRange x)
  | .word f =>
    match s.fetch16 with
    | .ok (v, _) => .instr (f v)
    | .error x => .fatal (.outOfRange x)

/-- The sub-opcode after 0xCB (R133); `start` is the address of the prefix byte and `s` the state past it. -/
def fetchSub (start : Word) (s : State) : Fetched :=
  match s.fetch8 with
  | .ok (sub, _) =>
    if s.cfg.implements (.cb sub) then .instr (cbEntry sub) else .fatal (.unimplementedOpcode sub start true)
  | .error x => .fatal (.outOfRange x)

/-- Fetches and decodes at PC: the opcode, then the sub-opcode of 0xCB, then whether the key has an entry, then the operand
bytes (R132 to R134, R372). -/
def fetchInstr (s : State) : Fetched :=
  match s.fetch8 with
  | .ok (op, t) =>
    if op = cbByte then fetchSub s.pc t
    else if s.cfg.implements (.primary op) then fetchOperand (primaryEntry op) t
    else .fatal (.unimplementedOpcode op s.pc false)
  | .error x => .fatal (.outOfRange x)

end Sys2Proof.Machine
end

