-- ==== Sys2Proof/Machine/Engine.lean ====
section
/-! DEFINITION. The step of each run state (spec/40_engine.md R130, R143, R144; spec/60_exceptions.md R377 to R380). -/

namespace Sys2Proof.Machine

/-- The frame check follows an executed instruction and does not follow a fatal halt (spec/40_engine.md R138, R140). -/
def State.settle (s : State) : State := if s.isHalted then s else s.frameCheck

/-- The outcome of a step whose state is settled. -/
def settleOutcome : Host.Outcome State Fault Refusal → Host.Outcome State Fault Refusal
  | .next t => .next t.settle
  | .fault r => .fault r
  | .refused r => .refused r

/-- One instruction, or the fatal halt its fetch ends in (R144). -/
def runInstr (s : State) : Host.Outcome State Fault Refusal :=
  match fetchInstr s with
  | .instr i => settleOutcome (exec i s)
  | .fatal r => .next (s.halt r)

/-- A step in Running (R144, R379, R380): an `irq` is taken when IME is set; every other request is not, and the next
instruction runs. -/
def stepRunning (s : State) : Host.Outcome State Fault Refusal :=
  match s.request with
  | .irq v => if s.ime then .next (s.nextBoundary.injectedCall v).settle else runInstr s.nextBoundary
  | .wake => runInstr s.nextBoundary
  | .none => runInstr s.nextBoundary

/-- A step in Sleeping(Halt) (R143, R379, R380): an `irq` is taken when IME is set and wakes the core otherwise. -/
def stepHaltSleep (s : State) : Host.Outcome State Fault Refusal :=
  match s.request with
  | .irq v =>
    if s.ime then .next (s.nextBoundary.injectedCall v).settle else .next s.nextBoundary.wake
  | .wake => .next s.nextBoundary.wake
  | .none => .next s.nextBoundary.idle.frameCheck

/-- A step in Sleeping(Stop) (R143, R379, R380): any request wakes the core, and without one nothing changes. -/
def stepStopSleep (s : State) : Host.Outcome State Fault Refusal :=
  match s.request with
  | .irq _ => .next s.nextBoundary.wake
  | .wake => .next s.nextBoundary.wake
  | .none => .next s.nextBoundary

/-- The step of the core. From Halted there is none (R141). -/
def coreStep (s : State) : Host.Outcome State Fault Refusal :=
  match s.run with
  | .running => stepRunning s
  | .sleeping .halt => stepHaltSleep s
  | .sleeping .stop => stepStopSleep s
  | .halted r => .fault (.halted r)

end Sys2Proof.Machine
end

