-- ==== Sys2Proof/Machine/Step.lean ====
section
/-! DEFINITION. The step, and the placing of one instruction where the next step fetches. -/

namespace Sys2Proof.Machine

/-- One step of the core (spec/40_engine.md R130). -/
def step (s : State) : Host.Outcome State Fault Refusal := coreStep s

/-- The state with the instruction of a table word at PC: what the loader of spec/20_memory.md R81 does for a program
(notes/assumptions/12.md). Nothing but memory changes. -/
def State.withFetchWord (s : State) (nbits w : Nat) : State := s.storeBytes s.pc (tableBytes nbits w)

end Sys2Proof.Machine
end

