-- ==== Sys2Proof/Certificates/Slice0/Forms.lean ====
section
/-! DEFINITION. Instructions by operand: the rows of the opcode table that one rule of the spec gives together, as a function
of the operands of that rule (spec/30_encoding.md R102 to R104, R111, R113). Statements about a family name it through these. -/

namespace Sys2Proof.Form

open Sys2Proof.Machine

/-- LD r,r' (R270). -/
def ld : Reg8 → Reg8 → Instr
  | .b, .b => .ld_b_b
  | .b, .c => .ld_b_c
  | .b, .d => .ld_b_d
  | .b, .e => .ld_b_e
  | .b, .h => .ld_b_h
  | .b, .l => .ld_b_l
  | .b, .a => .ld_b_a
  | .c, .b => .ld_c_b
  | .c, .c => .ld_c_c
  | .c, .d => .ld_c_d
  | .c, .e => .ld_c_e
  | .c, .h => .ld_c_h
  | .c, .l => .ld_c_l
  | .c, .a => .ld_c_a
  | .d, .b => .ld_d_b
  | .d, .c => .ld_d_c
  | .d, .d => .ld_d_d
  | .d, .e => .ld_d_e
  | .d, .h => .ld_d_h
  | .d, .l => .ld_d_l
  | .d, .a => .ld_d_a
  | .e, .b => .ld_e_b
  | .e, .c => .ld_e_c
  | .e, .d => .ld_e_d
  | .e, .e => .ld_e_e
  | .e, .h => .ld_e_h
  | .e, .l => .ld_e_l
  | .e, .a => .ld_e_a
  | .h, .b => .ld_h_b
  | .h, .c => .ld_h_c
  | .h, .d => .ld_h_d
  | .h, .e => .ld_h_e
  | .h, .h => .ld_h_h
  | .h, .l => .ld_h_l
  | .h, .a => .ld_h_a
  | .l, .b => .ld_l_b
  | .l, .c => .ld_l_c
  | .l, .d => .ld_l_d
  | .l, .e => .ld_l_e
  | .l, .h => .ld_l_h
  | .l, .l => .ld_l_l
  | .l, .a => .ld_l_a
  | .a, .b => .ld_a_b
  | .a, .c => .ld_a_c
  | .a, .d => .ld_a_d
  | .a, .e => .ld_a_e
  | .a, .h => .ld_a_h
  | .a, .l => .ld_a_l
  | .a, .a => .ld_a_a

/-- LD r,d8 (R271). -/
def ldImm : Reg8 → Byte → Instr
  | .b, v => .ld_b_d8 v
  | .c, v => .ld_c_d8 v
  | .d, v => .ld_d_d8 v
  | .e, v => .ld_e_d8 v
  | .h, v => .ld_h_d8 v
  | .l, v => .ld_l_d8 v
  | .a, v => .ld_a_d8 v

/-- LD r,(HL) (R272). -/
def ldFromHl : Reg8 → Instr
  | .b => .ld_b_at_hl
  | .c => .ld_c_at_hl
  | .d => .ld_d_at_hl
  | .e => .ld_e_at_hl
  | .h => .ld_h_at_hl
  | .l => .ld_l_at_hl
  | .a => .ld_a_at_hl

/-- LD (HL),r (R273). -/
def ldToHl : Reg8 → Instr
  | .b => .ld_at_hl_b
  | .c => .ld_at_hl_c
  | .d => .ld_at_hl_d
  | .e => .ld_at_hl_e
  | .h => .ld_at_hl_h
  | .l => .ld_at_hl_l
  | .a => .ld_at_hl_a

/-- The loads of A through an addressing mode (R275, R276, R279, R281, R283, R287, R288). -/
def loadA : Mode → Instr
  | .bc => .ld_a_at_bc
  | .de => .ld_a_at_de
  | .hlInc => .ld_a_at_hl_inc
  | .hlDec => .ld_a_at_hl_dec
  | .abs t => .ld_a_at_a16 t
  | .high n => .ldh_a_at_a8 n
  | .highC => .ld_a_at_c

/-- The stores of A through an addressing mode (R277, R278, R280, R282, R284 to R286). -/
def storeA : Mode → Instr
  | .bc => .ld_at_bc_a
  | .de => .ld_at_de_a
  | .hlInc => .ld_at_hl_inc_a
  | .hlDec => .ld_at_hl_dec_a
  | .abs t => .ld_at_a16_a t
  | .high n => .ldh_at_a8_a n
  | .highC => .ld_at_c_a

/-- LD rr,d16 (R289). -/
def ldPair : PairSp → Word → Instr
  | .bc, v => .ld_bc_d16 v
  | .de, v => .ld_de_d16 v
  | .hl, v => .ld_hl_d16 v
  | .sp, v => .ld_sp_d16 v

/-- The eight ALU operations on a register, (HL) or d8 (R213 to R220). -/
def alu : AluOp → Src → Instr
  | .add, .loc (.reg .b) => .add_a_b
  | .add, .loc (.reg .c) => .add_a_c
  | .add, .loc (.reg .d) => .add_a_d
  | .add, .loc (.reg .e) => .add_a_e
  | .add, .loc (.reg .h) => .add_a_h
  | .add, .loc (.reg .l) => .add_a_l
  | .add, .loc .atHl => .add_a_at_hl
  | .add, .loc (.reg .a) => .add_a_a
  | .adc, .loc (.reg .b) => .adc_a_b
  | .adc, .loc (.reg .c) => .adc_a_c
  | .adc, .loc (.reg .d) => .adc_a_d
  | .adc, .loc (.reg .e) => .adc_a_e
  | .adc, .loc (.reg .h) => .adc_a_h
  | .adc, .loc (.reg .l) => .adc_a_l
  | .adc, .loc .atHl => .adc_a_at_hl
  | .adc, .loc (.reg .a) => .adc_a_a
  | .sub, .loc (.reg .b) => .sub_b
  | .sub, .loc (.reg .c) => .sub_c
  | .sub, .loc (.reg .d) => .sub_d
  | .sub, .loc (.reg .e) => .sub_e
  | .sub, .loc (.reg .h) => .sub_h
  | .sub, .loc (.reg .l) => .sub_l
  | .sub, .loc .atHl => .sub_at_hl
  | .sub, .loc (.reg .a) => .sub_a
  | .sbc, .loc (.reg .b) => .sbc_a_b
  | .sbc, .loc (.reg .c) => .sbc_a_c
  | .sbc, .loc (.reg .d) => .sbc_a_d
  | .sbc, .loc (.reg .e) => .sbc_a_e
  | .sbc, .loc (.reg .h) => .sbc_a_h
  | .sbc, .loc (.reg .l) => .sbc_a_l
  | .sbc, .loc .atHl => .sbc_a_at_hl
  | .sbc, .loc (.reg .a) => .sbc_a_a
  | .and, .loc (.reg .b) => .and_b
  | .and, .loc (.reg .c) => .and_c
  | .and, .loc (.reg .d) => .and_d
  | .and, .loc (.reg .e) => .and_e
  | .and, .loc (.reg .h) => .and_h
  | .and, .loc (.reg .l) => .and_l
  | .and, .loc .atHl => .and_at_hl
  | .and, .loc (.reg .a) => .and_a
  | .xor, .loc (.reg .b) => .xor_b
  | .xor, .loc (.reg .c) => .xor_c
  | .xor, .loc (.reg .d) => .xor_d
  | .xor, .loc (.reg .e) => .xor_e
  | .xor, .loc (.reg .h) => .xor_h
  | .xor, .loc (.reg .l) => .xor_l
  | .xor, .loc .atHl => .xor_at_hl
  | .xor, .loc (.reg .a) => .xor_a
  | .or, .loc (.reg .b) => .or_b
  | .or, .loc (.reg .c) => .or_c
  | .or, .loc (.reg .d) => .or_d
  | .or, .loc (.reg .e) => .or_e
  | .or, .loc (.reg .h) => .or_h
  | .or, .loc (.reg .l) => .or_l
  | .or, .loc .atHl => .or_at_hl
  | .or, .loc (.reg .a) => .or_a
  | .cp, .loc (.reg .b) => .cp_b
  | .cp, .loc (.reg .c) => .cp_c
  | .cp, .loc (.reg .d) => .cp_d
  | .cp, .loc (.reg .e) => .cp_e
  | .cp, .loc (.reg .h) => .cp_h
  | .cp, .loc (.reg .l) => .cp_l
  | .cp, .loc .atHl => .cp_at_hl
  | .cp, .loc (.reg .a) => .cp_a
  | .add, .imm v => .add_a_d8 v
  | .adc, .imm v => .adc_a_d8 v
  | .sub, .imm v => .sub_d8 v
  | .sbc, .imm v => .sbc_a_d8 v
  | .and, .imm v => .and_d8 v
  | .xor, .imm v => .xor_d8 v
  | .or, .imm v => .or_d8 v
  | .cp, .imm v => .cp_d8 v

/-- INC r and INC (HL) (R223, R224). -/
def inc : Loc → Instr
  | .reg .b => .inc_b
  | .reg .c => .inc_c
  | .reg .d => .inc_d
  | .reg .e => .inc_e
  | .reg .h => .inc_h
  | .reg .l => .inc_l
  | .atHl => .inc_at_hl
  | .reg .a => .inc_a

/-- DEC r and DEC (HL) (R225, R226). -/
def dec : Loc → Instr
  | .reg .b => .dec_b
  | .reg .c => .dec_c
  | .reg .d => .dec_d
  | .reg .e => .dec_e
  | .reg .h => .dec_h
  | .reg .l => .dec_l
  | .atHl => .dec_at_hl
  | .reg .a => .dec_a

/-- INC rr (R251). -/
def incPair : PairSp → Instr
  | .bc => .inc_bc
  | .de => .inc_de
  | .hl => .inc_hl
  | .sp => .inc_sp

/-- DEC rr (R252). -/
def decPair : PairSp → Instr
  | .bc => .dec_bc
  | .de => .dec_de
  | .hl => .dec_hl
  | .sp => .dec_sp

/-- ADD HL,rr (R253). -/
def addHl : PairSp → Instr
  | .bc => .add_hl_bc
  | .de => .add_hl_de
  | .hl => .add_hl_hl
  | .sp => .add_hl_sp

/-- The rotates, shifts and SWAP of the sub-table (R315 to R322). -/
def shift : ShiftOp → Loc → Instr
  | .rlc, .reg .b => .rlc_b
  | .rlc, .reg .c => .rlc_c
  | .rlc, .reg .d => .rlc_d
  | .rlc, .reg .e => .rlc_e
  | .rlc, .reg .h => .rlc_h
  | .rlc, .reg .l => .rlc_l
  | .rlc, .atHl => .rlc_at_hl
  | .rlc, .reg .a => .rlc_a
  | .rrc, .reg .b => .rrc_b
  | .rrc, .reg .c => .rrc_c
  | .rrc, .reg .d => .rrc_d
  | .rrc, .reg .e => .rrc_e
  | .rrc, .reg .h => .rrc_h
  | .rrc, .reg .l => .rrc_l
  | .rrc, .atHl => .rrc_at_hl
  | .rrc, .reg .a => .rrc_a
  | .rl, .reg .b => .rl_b
  | .rl, .reg .c => .rl_c
  | .rl, .reg .d => .rl_d
  | .rl, .reg .e => .rl_e
  | .rl, .reg .h => .rl_h
  | .rl, .reg .l => .rl_l
  | .rl, .atHl => .rl_at_hl
  | .rl, .reg .a => .rl_a
  | .rr, .reg .b => .rr_b
  | .rr, .reg .c => .rr_c
  | .rr, .reg .d => .rr_d
  | .rr, .reg .e => .rr_e
  | .rr, .reg .h => .rr_h
  | .rr, .reg .l => .rr_l
  | .rr, .atHl => .rr_at_hl
  | .rr, .reg .a => .rr_a
  | .sla, .reg .b => .sla_b
  | .sla, .reg .c => .sla_c
  | .sla, .reg .d => .sla_d
  | .sla, .reg .e => .sla_e
  | .sla, .reg .h => .sla_h
  | .sla, .reg .l => .sla_l
  | .sla, .atHl => .sla_at_hl
  | .sla, .reg .a => .sla_a
  | .sra, .reg .b => .sra_b
  | .sra, .reg .c => .sra_c
  | .sra, .reg .d => .sra_d
  | .sra, .reg .e => .sra_e
  | .sra, .reg .h => .sra_h
  | .sra, .reg .l => .sra_l
  | .sra, .atHl => .sra_at_hl
  | .sra, .reg .a => .sra_a
  | .swap, .reg .b => .swap_b
  | .swap, .reg .c => .swap_c
  | .swap, .reg .d => .swap_d
  | .swap, .reg .e => .swap_e
  | .swap, .reg .h => .swap_h
  | .swap, .reg .l => .swap_l
  | .swap, .atHl => .swap_at_hl
  | .swap, .reg .a => .swap_a
  | .srl, .reg .b => .srl_b
  | .srl, .reg .c => .srl_c
  | .srl, .reg .d => .srl_d
  | .srl, .reg .e => .srl_e
  | .srl, .reg .h => .srl_h
  | .srl, .reg .l => .srl_l
  | .srl, .atHl => .srl_at_hl
  | .srl, .reg .a => .srl_a

/-- BIT b,s (R323). -/
def bit : Fin 8 → Loc → Instr
  | 0, .reg .b => .bit_0_b
  | 0, .reg .c => .bit_0_c
  | 0, .reg .d => .bit_0_d
  | 0, .reg .e => .bit_0_e
  | 0, .reg .h => .bit_0_h
  | 0, .reg .l => .bit_0_l
  | 0, .atHl => .bit_0_at_hl
  | 0, .reg .a => .bit_0_a
  | 1, .reg .b => .bit_1_b
  | 1, .reg .c => .bit_1_c
  | 1, .reg .d => .bit_1_d
  | 1, .reg .e => .bit_1_e
  | 1, .reg .h => .bit_1_h
  | 1, .reg .l => .bit_1_l
  | 1, .atHl => .bit_1_at_hl
  | 1, .reg .a => .bit_1_a
  | 2, .reg .b => .bit_2_b
  | 2, .reg .c => .bit_2_c
  | 2, .reg .d => .bit_2_d
  | 2, .reg .e => .bit_2_e
  | 2, .reg .h => .bit_2_h
  | 2, .reg .l => .bit_2_l
  | 2, .atHl => .bit_2_at_hl
  | 2, .reg .a => .bit_2_a
  | 3, .reg .b => .bit_3_b
  | 3, .reg .c => .bit_3_c
  | 3, .reg .d => .bit_3_d
  | 3, .reg .e => .bit_3_e
  | 3, .reg .h => .bit_3_h
  | 3, .reg .l => .bit_3_l
  | 3, .atHl => .bit_3_at_hl
  | 3, .reg .a => .bit_3_a
  | 4, .reg .b => .bit_4_b
  | 4, .reg .c => .bit_4_c
  | 4, .reg .d => .bit_4_d
  | 4, .reg .e => .bit_4_e
  | 4, .reg .h => .bit_4_h
  | 4, .reg .l => .bit_4_l
  | 4, .atHl => .bit_4_at_hl
  | 4, .reg .a => .bit_4_a
  | 5, .reg .b => .bit_5_b
  | 5, .reg .c => .bit_5_c
  | 5, .reg .d => .bit_5_d
  | 5, .reg .e => .bit_5_e
  | 5, .reg .h => .bit_5_h
  | 5, .reg .l => .bit_5_l
  | 5, .atHl => .bit_5_at_hl
  | 5, .reg .a => .bit_5_a
  | 6, .reg .b => .bit_6_b
  | 6, .reg .c => .bit_6_c
  | 6, .reg .d => .bit_6_d
  | 6, .reg .e => .bit_6_e
  | 6, .reg .h => .bit_6_h
  | 6, .reg .l => .bit_6_l
  | 6, .atHl => .bit_6_at_hl
  | 6, .reg .a => .bit_6_a
  | 7, .reg .b => .bit_7_b
  | 7, .reg .c => .bit_7_c
  | 7, .reg .d => .bit_7_d
  | 7, .reg .e => .bit_7_e
  | 7, .reg .h => .bit_7_h
  | 7, .reg .l => .bit_7_l
  | 7, .atHl => .bit_7_at_hl
  | 7, .reg .a => .bit_7_a

/-- RES b,s (R324). -/
def res : Fin 8 → Loc → Instr
  | 0, .reg .b => .res_0_b
  | 0, .reg .c => .res_0_c
  | 0, .reg .d => .res_0_d
  | 0, .reg .e => .res_0_e
  | 0, .reg .h => .res_0_h
  | 0, .reg .l => .res_0_l
  | 0, .atHl => .res_0_at_hl
  | 0, .reg .a => .res_0_a
  | 1, .reg .b => .res_1_b
  | 1, .reg .c => .res_1_c
  | 1, .reg .d => .res_1_d
  | 1, .reg .e => .res_1_e
  | 1, .reg .h => .res_1_h
  | 1, .reg .l => .res_1_l
  | 1, .atHl => .res_1_at_hl
  | 1, .reg .a => .res_1_a
  | 2, .reg .b => .res_2_b
  | 2, .reg .c => .res_2_c
  | 2, .reg .d => .res_2_d
  | 2, .reg .e => .res_2_e
  | 2, .reg .h => .res_2_h
  | 2, .reg .l => .res_2_l
  | 2, .atHl => .res_2_at_hl
  | 2, .reg .a => .res_2_a
  | 3, .reg .b => .res_3_b
  | 3, .reg .c => .res_3_c
  | 3, .reg .d => .res_3_d
  | 3, .reg .e => .res_3_e
  | 3, .reg .h => .res_3_h
  | 3, .reg .l => .res_3_l
  | 3, .atHl => .res_3_at_hl
  | 3, .reg .a => .res_3_a
  | 4, .reg .b => .res_4_b
  | 4, .reg .c => .res_4_c
  | 4, .reg .d => .res_4_d
  | 4, .reg .e => .res_4_e
  | 4, .reg .h => .res_4_h
  | 4, .reg .l => .res_4_l
  | 4, .atHl => .res_4_at_hl
  | 4, .reg .a => .res_4_a
  | 5, .reg .b => .res_5_b
  | 5, .reg .c => .res_5_c
  | 5, .reg .d => .res_5_d
  | 5, .reg .e => .res_5_e
  | 5, .reg .h => .res_5_h
  | 5, .reg .l => .res_5_l
  | 5, .atHl => .res_5_at_hl
  | 5, .reg .a => .res_5_a
  | 6, .reg .b => .res_6_b
  | 6, .reg .c => .res_6_c
  | 6, .reg .d => .res_6_d
  | 6, .reg .e => .res_6_e
  | 6, .reg .h => .res_6_h
  | 6, .reg .l => .res_6_l
  | 6, .atHl => .res_6_at_hl
  | 6, .reg .a => .res_6_a
  | 7, .reg .b => .res_7_b
  | 7, .reg .c => .res_7_c
  | 7, .reg .d => .res_7_d
  | 7, .reg .e => .res_7_e
  | 7, .reg .h => .res_7_h
  | 7, .reg .l => .res_7_l
  | 7, .atHl => .res_7_at_hl
  | 7, .reg .a => .res_7_a

/-- SET b,s (R325). -/
def set : Fin 8 → Loc → Instr
  | 0, .reg .b => .set_0_b
  | 0, .reg .c => .set_0_c
  | 0, .reg .d => .set_0_d
  | 0, .reg .e => .set_0_e
  | 0, .reg .h => .set_0_h
  | 0, .reg .l => .set_0_l
  | 0, .atHl => .set_0_at_hl
  | 0, .reg .a => .set_0_a
  | 1, .reg .b => .set_1_b
  | 1, .reg .c => .set_1_c
  | 1, .reg .d => .set_1_d
  | 1, .reg .e => .set_1_e
  | 1, .reg .h => .set_1_h
  | 1, .reg .l => .set_1_l
  | 1, .atHl => .set_1_at_hl
  | 1, .reg .a => .set_1_a
  | 2, .reg .b => .set_2_b
  | 2, .reg .c => .set_2_c
  | 2, .reg .d => .set_2_d
  | 2, .reg .e => .set_2_e
  | 2, .reg .h => .set_2_h
  | 2, .reg .l => .set_2_l
  | 2, .atHl => .set_2_at_hl
  | 2, .reg .a => .set_2_a
  | 3, .reg .b => .set_3_b
  | 3, .reg .c => .set_3_c
  | 3, .reg .d => .set_3_d
  | 3, .reg .e => .set_3_e
  | 3, .reg .h => .set_3_h
  | 3, .reg .l => .set_3_l
  | 3, .atHl => .set_3_at_hl
  | 3, .reg .a => .set_3_a
  | 4, .reg .b => .set_4_b
  | 4, .reg .c => .set_4_c
  | 4, .reg .d => .set_4_d
  | 4, .reg .e => .set_4_e
  | 4, .reg .h => .set_4_h
  | 4, .reg .l => .set_4_l
  | 4, .atHl => .set_4_at_hl
  | 4, .reg .a => .set_4_a
  | 5, .reg .b => .set_5_b
  | 5, .reg .c => .set_5_c
  | 5, .reg .d => .set_5_d
  | 5, .reg .e => .set_5_e
  | 5, .reg .h => .set_5_h
  | 5, .reg .l => .set_5_l
  | 5, .atHl => .set_5_at_hl
  | 5, .reg .a => .set_5_a
  | 6, .reg .b => .set_6_b
  | 6, .reg .c => .set_6_c
  | 6, .reg .d => .set_6_d
  | 6, .reg .e => .set_6_e
  | 6, .reg .h => .set_6_h
  | 6, .reg .l => .set_6_l
  | 6, .atHl => .set_6_at_hl
  | 6, .reg .a => .set_6_a
  | 7, .reg .b => .set_7_b
  | 7, .reg .c => .set_7_c
  | 7, .reg .d => .set_7_d
  | 7, .reg .e => .set_7_e
  | 7, .reg .h => .set_7_h
  | 7, .reg .l => .set_7_l
  | 7, .atHl => .set_7_at_hl
  | 7, .reg .a => .set_7_a

/-- JR cc,e8 (R191). -/
def jrIf : Cond → Byte → Instr
  | .nz, v => .jr_nz_e8 v
  | .z, v => .jr_z_e8 v
  | .nc, v => .jr_nc_e8 v
  | .c, v => .jr_c_e8 v

/-- JP cc,a16 (R193). -/
def jpIf : Cond → Word → Instr
  | .nz, t => .jp_nz_a16 t
  | .z, t => .jp_z_a16 t
  | .nc, t => .jp_nc_a16 t
  | .c, t => .jp_c_a16 t

/-- CALL cc,a16 (R168). -/
def callIf : Cond → Word → Instr
  | .nz, t => .call_nz_a16 t
  | .z, t => .call_z_a16 t
  | .nc, t => .call_nc_a16 t
  | .c, t => .call_c_a16 t

/-- RET cc (R170). -/
def retIf : Cond → Instr
  | .nz => .ret_nz
  | .z => .ret_z
  | .nc => .ret_nc
  | .c => .ret_c

/-- PUSH rr (R164). -/
def push : PairAf → Instr
  | .bc => .push_bc
  | .de => .push_de
  | .hl => .push_hl
  | .af => .push_af

/-- POP rr and POP AF (R165, R166). -/
def pop : PairAf → Instr
  | .bc => .pop_bc
  | .de => .pop_de
  | .hl => .pop_hl
  | .af => .pop_af

/-- RST t, by the field y (R172). -/
def rst : Fin 8 → Instr
  | 0 => .rst_00
  | 1 => .rst_08
  | 2 => .rst_10
  | 3 => .rst_18
  | 4 => .rst_20
  | 5 => .rst_28
  | 6 => .rst_30
  | 7 => .rst_38

end Sys2Proof.Form
end

