-- ==== Sys2Proof/Machine/Boot.lean ====
section
/-! DEFINITION. Construction (spec/70_reset_and_hazards.md R400): the program image is loaded at address 0 and the core
takes its post-boot values, in a machine with given parameters. -/

namespace Sys2Proof.Machine

/-- `construct(IMAGE, MEM_INIT)` with the parameters of spec/00_scope.md R8. A byte the image does not cover stays unlisted,
that is, MEM_INIT. An image longer than MEM_SIZE is the loader's failure, before the core runs (spec/20_memory.md R81), and a
MEM_SIZE outside R8's range makes no machine: `none`. -/
def construct (image : List Byte) (p : Params) : Option State :=
  if p.wellFormed && decide (image.length ≤ p.memSize) then
    some ({ State.reset with cfg := p }.storeBytes 0 image)
  else none

end Sys2Proof.Machine
end

