-- ==== Sys2Proof/Safety.lean ====
section
/-! DEFINITION. What claims call a legal state and a safe run. -/

namespace Sys2Proof.Machine

/-- A legal state: memory is in its canonical form and lists only bytes of the backing store, F's low nibble is zero
(spec/10_state.md R34), the cycle accumulator is not above FRAME_CYCLES (R41, spec/40_engine.md R138) and MEM_SIZE is in the
range of spec/00_scope.md R8. -/
structure State.Inv (s : State) : Prop where
  canonical : Memory.wf s.mem = true
  stored : ∀ x ∈ s.mem, x.1 < s.cfg.memSize
  lowNibble : s.f &&& 0x0F = 0
  cycles : s.cycles ≤ s.cfg.frameCycles
  params : s.cfg.wellFormed = true

/-- A safe run: no number of steps leads to a fatal condition (or past one). -/
def SafeRun (s : State) : Prop :=
  ∀ k, ∃ t, Host.Core.run Sys2Proof.core k s = .next t ∧ t.isHalted = false

/-- Every byte the core can address exists: MEM_SIZE has its default value (spec/20_memory.md R71). -/
def State.FullMemory (s : State) : Prop := s.cfg.memSize = 0x10000

end Sys2Proof.Machine
end

