-- ==== Sys2Proof/Certificates/Slice0/Vocabulary.lean ====
section
/-! DEFINITION. The words the statements of Obligations.lean are written in: the spec's encodings and operand values read off
without the meanings' own helpers, and what a next state keeps of the state before. -/

namespace Sys2Proof.Claim

open Sys2Proof.Machine

/-- An opcode byte given by its arithmetic on fields. -/
def opByte (n : Nat) : Byte := BitVec.ofNat 8 n

/-- The number of a register in the table R8 (spec/30_encoding.md R102). -/
def r8 : Reg8 → Nat
  | .b => 0
  | .c => 1
  | .d => 2
  | .e => 3
  | .h => 4
  | .l => 5
  | .a => 7

/-- The number of an operand of the fields y and z (R102): 6 is the byte at HL. -/
def locCode : Loc → Nat
  | .reg r => r8 r
  | .atHl => 6

/-- The number of a pair in R16sp (R103). -/
def pairSpCode : PairSp → Nat
  | .bc => 0
  | .de => 1
  | .hl => 2
  | .sp => 3

/-- The number of a pair in R16af (R103). -/
def pairAfCode : PairAf → Nat
  | .bc => 0
  | .de => 1
  | .hl => 2
  | .af => 3

/-- The number of a condition (R104). -/
def ccCode : Cond → Nat
  | .nz => 0
  | .z => 1
  | .nc => 2
  | .c => 3

/-- What a condition says of the flags (R104). -/
def holdsOn (s : State) : Cond → Bool
  | .nz => s.flag .z == false
  | .z => s.flag .z == true
  | .nc => s.flag .c == false
  | .c => s.flag .c == true

/-- The integer a displacement byte stands for (spec/00_scope.md R10). -/
def signedValue (v : Byte) : Int := if v.toNat < 128 then v.toNat else v.toNat - 256

/-- The instruction is written as these bytes and, with the cost table of spec/70 R410, costs these cycles. -/
def Encodes (i : Instr) (bytes : List Byte) (taken notTaken : Nat) : Prop :=
  encode i = bytes ∧
  ∀ p : Params, p.costs = [] → p.cost i.key true = taken ∧ p.cost i.key false = notTaken

/-- The state with PC past the instruction, its cost added and the instruction counted, and nothing else changed
(spec/40_engine.md R134, R136, R137). -/
def passed (i : Instr) (taken : Bool) (s : State) : State :=
  { s with
    pc := s.pc + BitVec.ofNat 16 (encode i).length
    cycles := s.cycles + s.cfg.cost i.key taken
    icount := s.icount + 1 }

/-- The step ends in Halted(OutOfRange(x)) with every other piece of state as before (R142). -/
def endsOutOfRange (s : State) (x : Word) : Host.Outcome State Fault Refusal :=
  .next { s with run := .halted (.outOfRange x) }

/-- The four flags of `t`, and F's low nibble as it was in `s`. -/
def FlagsAre (s t : State) (z n h c : Bool) : Prop :=
  t.flag .z = z ∧ t.flag .n = n ∧ t.flag .h = h ∧ t.flag .c = c ∧ t.f &&& 0x0F = s.f &&& 0x0F

/-- The value of a source operand in a state. -/
def value (s : State) : Src → Byte
  | .loc (.reg r) => s.reg r
  | .loc .atHl => s.byteAt s.hl
  | .imm v => v

/-- Whether a source operand exists: the byte at HL exists when HL is below MEM_SIZE. -/
def present (s : State) : Src → Bool
  | .loc .atHl => s.inRange s.hl
  | _ => true

/-- `t` is `s` with the byte at one address replaced; every byte at another address reads as before. -/
def StoresByte (s t : State) (a : Word) (v : Byte) : Prop :=
  ∀ b : Word, t.byteAt b = if b = a then v else s.byteAt b

/-- `t` is the passed state with the operand's place holding `r`, whatever its F. -/
def Rewritten (i : Instr) (s t : State) (x : Loc) (r : Byte) : Prop :=
  match x with
  | .reg q => t.reg q = r ∧ { t.setReg q (s.reg q) with f := s.f } = passed i true s
  | .atHl => StoresByte s t s.hl r ∧ { t with mem := s.mem, f := s.f } = passed i true s

/-- The bytes at the addresses from PC on. -/
def window (s : State) (n : Nat) : List Byte :=
  (List.range n).map fun k => s.byteAt (s.pc + BitVec.ofNat 16 k)

/-- Every one of the `n` addresses from PC on exists. -/
def WindowExists (s : State) (n : Nat) : Prop :=
  ∀ k, k < n → s.inRange (s.pc + BitVec.ofNat 16 k) = true

/-- An instruction one of whose bytes does not exist, the bytes before it being in place: the step ends in
OutOfRange at that byte's address (spec/40_engine.md R142; the port tied off). -/
def FetchStops (i : Instr) : Prop :=
  ∀ (s : State) (k : Nat), s.run = .running → s.cfg.irqPort = false → s.cfg.implements i.key = true →
    k < (encode i).length → window s k = (encode i).take k → WindowExists s k →
    s.inRange (s.pc + BitVec.ofNat 16 k) = false →
    step s = endsOutOfRange s (s.pc + BitVec.ofNat 16 k)

/-- The bytes of an ALU operation on an operand (spec/43_alu8.md R212). -/
def aluBytes (y : Nat) : Src → List Byte
  | .loc x => [opByte (0x80 + 8 * y + locCode x)]
  | .imm v => [opByte (0xC6 + 8 * y), v]

/-- The cost of an ALU operation by its operand form (R212). -/
def aluCost : Src → Nat
  | .loc (.reg _) => 4
  | .loc .atHl => 8
  | .imm _ => 8

/-- An ALU operation that writes `r` to A and these flags, Z by the result, and nothing else. -/
def AluResult (op : AluOp) (x : Src) (s : State) (r : Nat) (n h c : Bool) : Prop :=
  ∃ t, exec (Form.alu op x) s = .next t ∧ t.a.toNat = r ∧ FlagsAre s t (decide (r = 0)) n h c ∧
    { t with a := s.a, f := s.f } = passed (Form.alu op x) true s

/-- An ALU operation on an operand that does not exist. -/
def AluStops (op : AluOp) (x : Src) (s : State) : Prop :=
  present s x = false → exec (Form.alu op x) s = endsOutOfRange s s.hl

/-- Bit `k` of the result of a rotate or shift of `v` with carry flag `c` (spec/46_rotate_shift_bit.md R315 to R322, the
pseudocode read bit by bit). -/
def shiftedBit (op : ShiftOp) (v : Byte) (c : Bool) (k : Nat) : Bool :=
  match op with
  | .rlc => if k = 0 then v.getLsbD 7 else v.getLsbD (k - 1)
  | .rrc => if k = 7 then v.getLsbD 0 else v.getLsbD (k + 1)
  | .rl => if k = 0 then c else v.getLsbD (k - 1)
  | .rr => if k = 7 then c else v.getLsbD (k + 1)
  | .sla => if k = 0 then false else v.getLsbD (k - 1)
  | .sra => if k = 7 then v.getLsbD 7 else v.getLsbD (k + 1)
  | .swap => v.getLsbD ((k + 4) % 8)
  | .srl => if k = 7 then false else v.getLsbD (k + 1)

/-- The bit a rotate or shift moves into the carry flag. -/
def shiftedOut (op : ShiftOp) (v : Byte) : Bool :=
  match op with
  | .rlc => v.getLsbD 7
  | .rrc => v.getLsbD 0
  | .rl => v.getLsbD 7
  | .rr => v.getLsbD 0
  | .sla => v.getLsbD 7
  | .sra => v.getLsbD 0
  | .swap => false
  | .srl => v.getLsbD 0

/-- The number of a rotate or shift in the sub-table (spec/30_encoding.md R111). -/
def shiftCode : ShiftOp → Nat
  | .rlc => 0
  | .rrc => 1
  | .rl => 2
  | .rr => 3
  | .sla => 4
  | .sra => 5
  | .swap => 6
  | .srl => 7

/-- The cost of a CB instruction that writes its operand back (spec/46_rotate_shift_bit.md R314). -/
def cbRewriteCost : Loc → Nat
  | .reg _ => 8
  | .atHl => 16

/-- The bytes of a load of A through a mode (spec/45_loads.md). -/
def loadABytes : Mode → List Byte
  | .bc => [0x0A]
  | .de => [0x1A]
  | .hlInc => [0x2A]
  | .hlDec => [0x3A]
  | .abs t => [0xFA, loByte t, hiByte t]
  | .high n => [0xF0, n]
  | .highC => [0xF2]

/-- The bytes of a store of A through a mode (spec/45_loads.md). -/
def storeABytes : Mode → List Byte
  | .bc => [0x02]
  | .de => [0x12]
  | .hlInc => [0x22]
  | .hlDec => [0x32]
  | .abs t => [0xEA, loByte t, hiByte t]
  | .high n => [0xE0, n]
  | .highC => [0xE2]

/-- The cost of a load or store of A through a mode. -/
def modeCost : Mode → Nat
  | .abs _ => 16
  | .high _ => 12
  | _ => 8

/-- The effective address of a mode (spec/45_loads.md section 1). -/
def modeAddress (s : State) : Mode → Word
  | .bc => wordOf s.b s.c
  | .de => wordOf s.d s.e
  | .hlInc => wordOf s.h s.l
  | .hlDec => wordOf s.h s.l
  | .abs t => t
  | .high n => 0xFF00 + n.setWidth 16
  | .highC => 0xFF00 + s.c.setWidth 16

/-- What a mode leaves in HL (spec/45_loads.md section 1): HL plus one, HL minus one, or HL. -/
def modeHl (s : State) : Mode → Word
  | .hlInc => wordOf s.h s.l + 1
  | .hlDec => wordOf s.h s.l - 1
  | _ => wordOf s.h s.l

/-- The two registers of a pair of R16af, the high one first (spec/10_state.md R32, R33). -/
def pairAfBytes (s : State) : PairAf → Byte × Byte
  | .bc => (s.b, s.c)
  | .de => (s.d, s.e)
  | .hl => (s.h, s.l)
  | .af => (s.a, s.f)

/-- `t` holds the two bytes of a word on the stack below the SP of `s`, the high byte at the higher address, and every other
byte as before. -/
def StoresPushed (s t : State) (hi lo : Byte) : Prop :=
  ∀ x : Word, t.byteAt x = if x = s.sp - 2 then lo else if x = s.sp - 1 then hi else s.byteAt x

/-- Both bytes below SP exist. -/
def PushExists (s : State) : Prop := s.inRange (s.sp - 1) = true ∧ s.inRange (s.sp - 2) = true

/-- A push whose first (high) byte, or else whose second byte, does not exist ends the step at that address. -/
def PushStops (s : State) (o : Host.Outcome State Fault Refusal) : Prop :=
  (s.inRange (s.sp - 1) = false → o = endsOutOfRange s (s.sp - 1)) ∧
  (s.inRange (s.sp - 1) = true → s.inRange (s.sp - 2) = false → o = endsOutOfRange s (s.sp - 2))

/-- Both bytes at SP exist. -/
def PopExists (s : State) : Prop := s.inRange s.sp = true ∧ s.inRange (s.sp + 1) = true

/-- A pop whose first (low) byte, or else whose second byte, does not exist ends the step at that address. -/
def PopStops (s : State) (o : Host.Outcome State Fault Refusal) : Prop :=
  (s.inRange s.sp = false → o = endsOutOfRange s s.sp) ∧
  (s.inRange s.sp = true → s.inRange (s.sp + 1) = false → o = endsOutOfRange s (s.sp + 1))

/-- `t` is what a call of `target` leaves: the address after the instruction on the stack, PC at the target. -/
def Called (i : Instr) (s t : State) (target : Word) : Prop :=
  t.pc = target ∧ t.sp = s.sp - 2 ∧
  StoresPushed s t (hiByte (passed i true s).pc) (loByte (passed i true s).pc) ∧
  { t with pc := (passed i true s).pc, sp := s.sp, mem := s.mem } = passed i true s

/-- `t` is what a return leaves: PC the word at SP, SP past it. -/
def Returned (i : Instr) (s t : State) : Prop :=
  t.pc = wordOf (s.byteAt (s.sp + 1)) (s.byteAt s.sp) ∧ t.sp = s.sp + 2 ∧
  { t with pc := (passed i true s).pc, sp := s.sp } = passed i true s

/-- What the frame check (spec/40_engine.md R138, R139) makes of `t`: below or at FRAME_CYCLES nothing; above it, `cycles` is
zero, every byte of the store at an address of RENDER_WRITES holds that call's free draw, and nothing else changes but the
count of hook calls. -/
def FrameChecked (t u : State) : Prop :=
  (t.cycles ≤ t.cfg.frameCycles → u = t) ∧
  (t.cfg.frameCycles < t.cycles →
    u.cycles = 0 ∧
    (∀ x : Word, u.byteAt x =
      if x ∈ t.cfg.renderWrites ∧ t.inRange x = true then Config.hookByte t.hookCalls x.toNat else t.byteAt x) ∧
    { u with cycles := t.cycles, mem := t.mem, hookCalls := t.hookCalls } = t)

/-- The addresses an instruction stores to in a state, by the rules of spec/41, 43, 45 and 46; `[]` for a form that stores
nothing, a call not taken included. -/
def storedAddresses (i : Instr) (s : State) : List Word :=
  match i with
  | .ld_at_a16_sp t => [t, t + 1]
  | .ld_at_a16_a t => [t]
  | .ldh_at_a8_a n => [0xFF00 + n.setWidth 16]
  | .call_nz_a16 _ => if holdsOn s .nz then [s.sp - 1, s.sp - 2] else []
  | .call_z_a16 _ => if holdsOn s .z then [s.sp - 1, s.sp - 2] else []
  | .call_nc_a16 _ => if holdsOn s .nc then [s.sp - 1, s.sp - 2] else []
  | .call_c_a16 _ => if holdsOn s .c then [s.sp - 1, s.sp - 2] else []
  | .cb_prefix sub => if fieldZ sub = 6 ∧ fieldX sub ≠ 1 then [s.hl] else []
  | i =>
    match i.key with
    | .cb sub => if fieldZ sub = 6 ∧ fieldX sub ≠ 1 then [s.hl] else []
    | .primary op =>
      if op ∈ [0x22, 0x32, 0x34, 0x35, 0x36, 0x70, 0x71, 0x72, 0x73, 0x74, 0x75, 0x77] then [s.hl]
      else if op = 0x02 then [s.bc]
      else if op = 0x12 then [s.de]
      else if op = 0xE2 then [0xFF00 + s.c.setWidth 16]
      else if op ∈ [0xC5, 0xD5, 0xE5, 0xF5, 0xCD] ∨ op ∈ [0xC7, 0xCF, 0xD7, 0xDF, 0xE7, 0xEF, 0xF7, 0xFF] then
        [s.sp - 1, s.sp - 2]
      else []

/-- Whether an instruction writes a flag, by the lines of spec/10_state.md R37, read off the fields of its opcode. -/
def writesFlag (x : Flag) : Key → Bool
  | .cb sub => decide (fieldX sub = 0) || (decide (fieldX sub = 1) && x != .c)
  | .primary op =>
    -- the eight ALU operations
    decide (fieldX op = 2) || (decide (fieldX op = 3) && decide (fieldZ op = 6))
    -- INC and DEC of an 8-bit operand: not C
    || (decide (fieldX op = 0) && (decide (fieldZ op = 4) || decide (fieldZ op = 5)) && x != .c)
    -- ADD HL,rr: not Z
    || (decide (fieldX op = 0) && decide (fieldZ op = 1) && op.getLsbD 3 && x != .z)
    -- ADD SP,e8; LD HL,SP+e8; POP AF; the accumulator rotates
    || [0xE8, 0xF8, 0xF1, 0x07, 0x0F, 0x17, 0x1F].contains op
    -- DAA: not N
    || (op == 0x27 && x != .n)
    -- CPL: N and H
    || (op == 0x2F && (x == .n || x == .h))
    -- SCF and CCF: not Z
    || ((op == 0x37 || op == 0x3F) && x != .z)

/-- The BCD value of a byte. -/
def decimal (v : Byte) : Nat := v.toNat / 16 * 10 + v.toNat % 16

/-- Both nibbles of a byte are decimal digits. -/
def IsBcd (v : Byte) : Prop := v.toNat / 16 < 10 ∧ v.toNat % 16 < 10

end Sys2Proof.Claim
end

