-- ==== Sys2Proof/WellFormed.lean ====
section
/-! DEFINITION. Which terms of `Instr` are instructions a decoder can give. Every operand of every row takes every value
of its field, so the one check is about the row CB_prefix. -/

namespace Sys2Proof

/-- An instruction is well formed unless it is the row CB_prefix: the prefix byte is never an instruction's key of its own,
it always reads a sub-opcode and selects that sub-opcode's row (spec/40_engine.md R147; notes/assumptions/8.md). -/
def Instr.wellFormed : Instr → Bool
  | .cb_prefix _ => false
  | _ => true

end Sys2Proof
end

