-- ==== Sys2Proof/Certificates/Slice0/Obligations.lean ====
section
/-! DEFINITION. The statements about the model, from the spec's numbered rules: encoding, registers and memory, the result and
the frame of every instruction, the engine. -/

open Sys2Proof Sys2Proof.Machine Sys2Proof.Claim

/-! Encoding. -/

/-- Decoding what the encoder writes gives the instruction back, whatever bytes follow (spec/30_encoding.md R100, R107, R111). -/
def Obligations.DecodeInvertsEncode : Prop :=
  ∀ (i : Instr) (rest : List Byte), i.wellFormed = true → decode (encode i ++ rest) = .ok (i, rest)

/-- Bytes that decode are the encoding of the instruction they decode to, and that instruction is well formed: no two byte
sequences mean one instruction. -/
def Obligations.DecodedBytesAreTheEncoding : Prop :=
  ∀ (bytes : List Byte) (i : Instr) (rest : List Byte),
    decode bytes = .ok (i, rest) → bytes = encode i ++ rest ∧ i.wellFormed = true

/-- Words written out from the encodings of spec/41 to 47 decode to the instructions they stand for. -/
def Obligations.WordsFromTheSpecDecode : Prop :=
  decode [0b00111110, 0x05] = .ok (.ld_a_d8 0x05, []) ∧
  decode [0b00111100] = .ok (.inc_a, []) ∧
  decode [0b00100000, 0b11111110] = .ok (.jr_nz_e8 0xFE, []) ∧
  decode [0b11001101, 0x00, 0x20] = .ok (.call_a16 0x2000, []) ∧
  decode [0b11100101] = .ok (.push_hl, []) ∧
  decode [0b10011011] = .ok (.sbc_a_e, []) ∧
  decode [0b00111001] = .ok (.add_hl_sp, []) ∧
  decode [0b11001011, 0b01111100] = .ok (.bit_7_h, []) ∧
  decode [0b01110110] = .ok (.halt, []) ∧
  decode [0b00010000, 0x00] = .ok (.stop 0x00, [])

/-- The length of an instruction by its first byte (R112), and the one byte an illegal opcode is fetched by: the core halts on
it though no byte after it exists. -/
def Obligations.LengthIsDecidedByTheFirstByte : Prop :=
  (∀ (op : Byte) (rest : List Byte) (i : Instr) (left : List Byte), op ∉ illegalOpcodes →
    decode (op :: rest) = .ok (i, left) →
    rest.length + 1 = left.length +
      (if op ∈ [0x06, 0x0E, 0x16, 0x1E, 0x26, 0x2E, 0x36, 0x3E] ∨ op ∈ [0xC6, 0xCE, 0xD6, 0xDE, 0xE6, 0xEE, 0xF6, 0xFE]
          ∨ op ∈ [0x18, 0x20, 0x28, 0x30, 0x38] ∨ op ∈ [0xE0, 0xF0, 0xE8, 0xF8, 0xCB, 0x10] then 2
        else if op ∈ [0x01, 0x11, 0x21, 0x31, 0x08] ∨ op ∈ [0xC2, 0xC3, 0xCA, 0xD2, 0xDA]
          ∨ op ∈ [0xC4, 0xCC, 0xCD, 0xD4, 0xDC, 0xEA, 0xFA] then 3
        else 1)) ∧
  (∀ sub : Byte, (encode (cbEntry sub)).length = 2) ∧
  (∀ s : State, s.run = .running → s.cfg.irqPort = false → s.inRange s.pc = true → s.byteAt s.pc ∈ illegalOpcodes →
    step s = .next { s with run := .halted (.unimplementedOpcode (s.byteAt s.pc) s.pc false) })

/-! Registers, flags and memory. -/

/-- The pairs BC, DE and HL are views of two registers each: how a pair reads, what a write of one writes, and that nothing
else is written (spec/10_state.md R32). -/
def Obligations.RegisterPairsAreViews : Prop :=
  ∀ (s : State) (v : Word),
    (s.bc.toNat = s.b.toNat * 256 + s.c.toNat ∧ s.de.toNat = s.d.toNat * 256 + s.e.toNat
      ∧ s.hl.toNat = s.h.toNat * 256 + s.l.toNat) ∧
    ((s.setBc v).b.toNat = v.toNat / 256 ∧ (s.setBc v).c.toNat = v.toNat % 256
      ∧ { s.setBc v with b := s.b, c := s.c } = s ∧ (s.setBc v).bc = v) ∧
    ((s.setDe v).d.toNat = v.toNat / 256 ∧ (s.setDe v).e.toNat = v.toNat % 256
      ∧ { s.setDe v with d := s.d, e := s.e } = s ∧ (s.setDe v).de = v) ∧
    ((s.setHl v).h.toNat = v.toNat / 256 ∧ (s.setHl v).l.toNat = v.toNat % 256
      ∧ { s.setHl v with h := s.h, l := s.l } = s ∧ (s.setHl v).hl = v)

/-- Setting one flag changes that flag alone: the other three and F's low nibble read as before (R35). -/
def Obligations.FlagsAreIndependent : Prop :=
  ∀ (f : Byte) (x y : Flag) (v : Bool),
    getFlag (setFlag f x v) x = v ∧
    (y ≠ x → getFlag (setFlag f x v) y = getFlag f y) ∧
    setFlag f x v &&& 0x0F = f &&& 0x0F ∧
    getFlag f .z = f.getLsbD 7 ∧ getFlag f .n = f.getLsbD 6 ∧ getFlag f .h = f.getLsbD 5 ∧ getFlag f .c = f.getLsbD 4

/-- The values at construction (spec/10_state.md R47): the post-boot registers, the pairs and flags they make (derived, as the
spec marks them), IME, the counters and the run state (notes/assumptions/15.md). -/
def Obligations.ConstructionValues : Prop :=
  State.reset.a = 0x01 ∧ State.reset.f = 0xB0 ∧ State.reset.b = 0x00 ∧ State.reset.c = 0x13 ∧
  State.reset.d = 0x00 ∧ State.reset.e = 0xD8 ∧ State.reset.h = 0x01 ∧ State.reset.l = 0x4D ∧
  State.reset.sp = 0xFFFE ∧ State.reset.pc = 0x0100 ∧
  State.reset.bc = 0x0013 ∧ State.reset.de = 0x00D8 ∧ State.reset.hl = 0x014D ∧ State.reset.af = 0x01B0 ∧
  State.reset.flag .z = true ∧ State.reset.flag .n = false ∧ State.reset.flag .h = true ∧ State.reset.flag .c = true ∧
  State.reset.ime = false ∧ State.reset.cycles = 0 ∧ State.reset.icount = 0 ∧ State.reset.run = .running

/-- Loading an image (spec/20_memory.md R81): byte `k` of the image stands at address `k`, every other byte is MEM_INIT, the
registers are those of construction, and an image longer than MEM_SIZE makes no machine. -/
def Obligations.ImageIsLoadedAtZero : Prop :=
  ∀ (image : List Byte) (p : Params), p.wellFormed = true →
    (image.length ≤ p.memSize →
      ∃ s, construct image p = some s ∧
        (∀ x : Word, s.byteAt x = image.getD x.toNat (Config.memInit x.toNat)) ∧
        { s with mem := [] } = { State.reset with cfg := p }) ∧
    (p.memSize < image.length → construct image p = none)

/-- One byte read and written (spec/20_memory.md R71, R73): an address below MEM_SIZE reads the byte stored there and takes a
store; every other address raises OutOfRange. A later read gives the byte written and every other address reads as before. -/
def Obligations.ReadsReturnTheLastWrite : Prop :=
  ∀ (s : State) (x y : Word) (v : Byte),
    (x.toNat < s.cfg.memSize →
      s.read8 x = .ok (s.byteAt x) ∧
      ∃ t, s.write8 x v = .ok t ∧ t.read8 x = .ok v ∧ (y ≠ x → t.read8 y = s.read8 y) ∧ { t with mem := s.mem } = s) ∧
    (s.cfg.memSize ≤ x.toNat → s.read8 x = .error x ∧ s.write8 x v = .error x)

/-- Sixteen bits read and written (R72, R74): the low byte at the address, the high byte at the next one modulo 2^16, and the
first of the two that does not exist is the one reported. The spec marks the byte order of a write as derived from that of a
read. -/
def Obligations.WordsAreLittleEndian : Prop :=
  ∀ (s : State) (x v : Word),
    (s.inRange x = true → s.inRange (x + 1) = true →
      (∃ r, s.read16 x = .ok r ∧ r.toNat = (s.byteAt (x + 1)).toNat * 256 + (s.byteAt x).toNat) ∧
      ∃ t, s.write16 x v = .ok t ∧
        (t.byteAt x).toNat = v.toNat % 256 ∧ (t.byteAt (x + 1)).toNat = v.toNat / 256 ∧
        (∀ y, y ≠ x → y ≠ x + 1 → t.byteAt y = s.byteAt y) ∧ t.read16 x = .ok v ∧ { t with mem := s.mem } = s) ∧
    (s.inRange x = false → s.read16 x = .error x ∧ s.write16 x v = .error x) ∧
    (s.inRange x = true → s.inRange (x + 1) = false →
      s.read16 x = .error (x + 1) ∧ s.write16 x v = .error (x + 1)) ∧
    (0xFFFF : Word) + 1 = 0

/-- The stack primitives (spec/41_stack_calls.md R160 to R163): a push decrements then writes, a pop reads then increments, the
high byte of a word is pushed first, and a pop after a push gives the value back and leaves SP where it was. The spec marks the
places of a pushed word's bytes and the round trip as derived from the four definitions. -/
def Obligations.StackIsLastInFirstOut : Prop :=
  ∀ (s : State) (v : Byte) (w : Word),
    (s.inRange (s.sp - 1) = true →
      ∃ t, s.push8 v = .ok t ∧ t.sp = s.sp - 1 ∧ StoresByte s t (s.sp - 1) v ∧
        { t with sp := s.sp, mem := s.mem } = s ∧
        ∃ u, t.pop8 = .ok (v, u) ∧ u.sp = s.sp) ∧
    (s.inRange s.sp = true → s.pop8 = .ok (s.byteAt s.sp, { s with sp := s.sp + 1 })) ∧
    (PushExists s →
      ∃ t, s.push16 w = .ok t ∧ t.sp = s.sp - 2 ∧ StoresPushed s t (hiByte w) (loByte w) ∧
        { t with sp := s.sp, mem := s.mem } = s ∧ t.read16 t.sp = .ok w ∧
        ∃ u, t.pop16 = .ok (w, u) ∧ u.sp = s.sp) ∧
    (PopExists s →
      s.pop16 = .ok (wordOf (s.byteAt (s.sp + 1)) (s.byteAt s.sp), { s with sp := s.sp + 2 }))

/-! Loads. -/

/-- LD r,r' (spec/45_loads.md R270). -/
def Obligations.RegisterCopies : Prop :=
  ∀ q r : Reg8, Encodes (Form.ld q r) [opByte (0x40 + 8 * r8 q + r8 r)] 4 4 ∧
    ∀ s : State, ∃ t, exec (Form.ld q r) s = .next t ∧ t.reg q = s.reg r ∧
      t.setReg q (s.reg q) = passed (Form.ld q r) true s

/-- LD r,d8 (R271). -/
def Obligations.ImmediateByteLoads : Prop :=
  ∀ (q : Reg8) (v : Byte), Encodes (Form.ldImm q v) [opByte (0x06 + 8 * r8 q), v] 8 8 ∧ FetchStops (Form.ldImm q v) ∧
    ∀ s : State, ∃ t, exec (Form.ldImm q v) s = .next t ∧ t.reg q = v ∧
      t.setReg q (s.reg q) = passed (Form.ldImm q v) true s

/-- LD r,(HL), LD (HL),r and LD (HL),d8 (R272 to R274): the address is HL before the instruction. -/
def Obligations.LoadsAndStoresAtHl : Prop :=
  ∀ (q : Reg8) (v : Byte),
    (Encodes (Form.ldFromHl q) [opByte (0x46 + 8 * r8 q)] 8 8 ∧
      ∀ s : State, (s.inRange s.hl = true →
          ∃ t, exec (Form.ldFromHl q) s = .next t ∧ t.reg q = s.byteAt s.hl ∧
            t.setReg q (s.reg q) = passed (Form.ldFromHl q) true s) ∧
        (s.inRange s.hl = false → exec (Form.ldFromHl q) s = endsOutOfRange s s.hl)) ∧
    (Encodes (Form.ldToHl q) [opByte (0x70 + r8 q)] 8 8 ∧
      ∀ s : State, (s.inRange s.hl = true →
          ∃ t, exec (Form.ldToHl q) s = .next t ∧ StoresByte s t s.hl (s.reg q) ∧
            { t with mem := s.mem } = passed (Form.ldToHl q) true s) ∧
        (s.inRange s.hl = false → exec (Form.ldToHl q) s = endsOutOfRange s s.hl)) ∧
    (Encodes (.ld_at_hl_d8 v) [0x36, v] 12 12 ∧ FetchStops (.ld_at_hl_d8 v) ∧
      ∀ s : State, (s.inRange s.hl = true →
          ∃ t, exec (.ld_at_hl_d8 v) s = .next t ∧ StoresByte s t s.hl v ∧
            { t with mem := s.mem } = passed (.ld_at_hl_d8 v) true s) ∧
        (s.inRange s.hl = false → exec (.ld_at_hl_d8 v) s = endsOutOfRange s s.hl))

/-- The loads of A through (BC), (DE), (a16), the high page, (HL+) and (HL-) (R275, R276, R279, R281, R283, R287, R288). -/
def Obligations.AccumulatorLoads : Prop :=
  ∀ m : Mode, Encodes (Form.loadA m) (loadABytes m) (modeCost m) (modeCost m) ∧ FetchStops (Form.loadA m) ∧
    ∀ s : State, (s.inRange (modeAddress s m) = true →
        ∃ t, exec (Form.loadA m) s = .next t ∧ t.a = s.byteAt (modeAddress s m) ∧ wordOf t.h t.l = modeHl s m ∧
          { t with a := s.a, h := s.h, l := s.l } = passed (Form.loadA m) true s) ∧
      (s.inRange (modeAddress s m) = false → exec (Form.loadA m) s = endsOutOfRange s (modeAddress s m))

/-- The stores of A through (BC), (DE), (a16), the high page, (HL+) and (HL-) (R277, R278, R280, R282, R284 to R286). -/
def Obligations.AccumulatorStores : Prop :=
  ∀ m : Mode, Encodes (Form.storeA m) (storeABytes m) (modeCost m) (modeCost m) ∧ FetchStops (Form.storeA m) ∧
    ∀ s : State, (s.inRange (modeAddress s m) = true →
        ∃ t, exec (Form.storeA m) s = .next t ∧ StoresByte s t (modeAddress s m) s.a ∧ wordOf t.h t.l = modeHl s m ∧
          { t with mem := s.mem, h := s.h, l := s.l } = passed (Form.storeA m) true s) ∧
      (s.inRange (modeAddress s m) = false → exec (Form.storeA m) s = endsOutOfRange s (modeAddress s m))

/-- LD rr,d16, LD SP,HL and LD (a16),SP (R289 to R291): LD (a16),SP stores the low byte of SP at a16 and the high byte at the
next address modulo 2^16. -/
def Obligations.WordMoves : Prop :=
  (∀ (p : PairSp) (v : Word),
    Encodes (Form.ldPair p v) [opByte (0x01 + 16 * pairSpCode p), loByte v, hiByte v] 12 12 ∧ FetchStops (Form.ldPair p v) ∧
    ∀ s : State, ∃ t, exec (Form.ldPair p v) s = .next t ∧ t.pairSp p = v ∧
      t.setPairSp p (s.pairSp p) = passed (Form.ldPair p v) true s) ∧
  (Encodes .ld_sp_hl [0xF9] 8 8 ∧
  ∀ s : State, ∃ t, exec .ld_sp_hl s = .next t ∧ t.sp.toNat = s.h.toNat * 256 + s.l.toNat ∧
    { t with sp := s.sp } = passed .ld_sp_hl true s) ∧
  ∀ x : Word, Encodes (.ld_at_a16_sp x) [0x08, loByte x, hiByte x] 20 20 ∧ FetchStops (.ld_at_a16_sp x) ∧
    ∀ s : State,
      (s.inRange x = true → s.inRange (x + 1) = true →
        ∃ t, exec (.ld_at_a16_sp x) s = .next t ∧
          (∀ y : Word, t.byteAt y = if y = x + 1 then hiByte s.sp else if y = x then loByte s.sp else s.byteAt y) ∧
          { t with mem := s.mem } = passed (.ld_at_a16_sp x) true s) ∧
      (s.inRange x = false → exec (.ld_at_a16_sp x) s = endsOutOfRange s x) ∧
      (s.inRange x = true → s.inRange (x + 1) = false → exec (.ld_at_a16_sp x) s = endsOutOfRange s (x + 1))

/-- ADD SP,e8 and LD HL,SP+e8 (spec/44_alu16.md R254, R255; spec/45_loads.md R292): the signed sum modulo 2^16, and the carries
of the unsigned sum of the low bytes. -/
def Obligations.StackPointerPlusDisplacement : Prop :=
  ∀ e : Byte,
    Encodes (.add_sp_e8 e) [0xE8, e] 16 16 ∧ FetchStops (.add_sp_e8 e) ∧
    Encodes (.ld_hl_sp_e8 e) [0xF8, e] 12 12 ∧ FetchStops (.ld_hl_sp_e8 e) ∧
    ∀ s : State,
      (∃ t, exec (.add_sp_e8 e) s = .next t ∧ (t.sp.toNat : Int) = (s.sp.toNat + signedValue e) % 65536 ∧
        FlagsAre s t false false (decide (s.sp.toNat % 16 + e.toNat % 16 > 15)) (decide (s.sp.toNat % 256 + e.toNat > 255)) ∧
        { t with sp := s.sp, f := s.f } = passed (.add_sp_e8 e) true s) ∧
      (∃ t, exec (.ld_hl_sp_e8 e) s = .next t ∧
        ((t.h.toNat * 256 + t.l.toNat : Nat) : Int) = (s.sp.toNat + signedValue e) % 65536 ∧
        FlagsAre s t false false (decide (s.sp.toNat % 16 + e.toNat % 16 > 15)) (decide (s.sp.toNat % 256 + e.toNat > 255)) ∧
        { t with h := s.h, l := s.l, f := s.f } = passed (.ld_hl_sp_e8 e) true s)

/-! 8-bit arithmetic. -/

/-- ADD A,s and ADC A,s (spec/43_alu8.md R213, R214); the carries out of bits 3 and 7 are written as R210 writes them. -/
def Obligations.AdditionAndFlags : Prop :=
  ∀ x : Src,
    Encodes (Form.alu .add x) (aluBytes 0 x) (aluCost x) (aluCost x) ∧ FetchStops (Form.alu .add x) ∧
    Encodes (Form.alu .adc x) (aluBytes 1 x) (aluCost x) (aluCost x) ∧ FetchStops (Form.alu .adc x) ∧
    ∀ s : State, AluStops .add x s ∧ AluStops .adc x s ∧
      (present s x = true →
        let a := s.a.toNat
        let v := (value s x).toNat
        let c := if s.flag .c then 1 else 0
        AluResult .add x s ((a + v) % 256) false (decide (a % 16 + v % 16 > 15)) (decide (a + v > 255)) ∧
        AluResult .adc x s ((a + v + c) % 256) false (decide (a % 16 + v % 16 + c > 15)) (decide (a + v + c > 255)))

/-- SUB s, SBC A,s and CP s (R215, R216, R220), the borrows out of bits 3 and 7 written as R211 writes them:
CP writes the flags of the subtraction and nothing else. -/
def Obligations.SubtractionAndFlags : Prop :=
  ∀ x : Src,
    Encodes (Form.alu .sub x) (aluBytes 2 x) (aluCost x) (aluCost x) ∧ FetchStops (Form.alu .sub x) ∧
    Encodes (Form.alu .sbc x) (aluBytes 3 x) (aluCost x) (aluCost x) ∧ FetchStops (Form.alu .sbc x) ∧
    Encodes (Form.alu .cp x) (aluBytes 7 x) (aluCost x) (aluCost x) ∧ FetchStops (Form.alu .cp x) ∧
    ∀ s : State, AluStops .sub x s ∧ AluStops .sbc x s ∧ AluStops .cp x s ∧
      (present s x = true →
        let a := s.a.toNat
        let v := (value s x).toNat
        let c := if s.flag .c then 1 else 0
        AluResult .sub x s ((a + 256 - v) % 256) true (decide (a % 16 < v % 16)) (decide (a < v)) ∧
        AluResult .sbc x s ((a + 512 - v - c) % 256) true (decide (a % 16 < v % 16 + c)) (decide (a < v + c)) ∧
        ∃ t, exec (Form.alu .cp x) s = .next t ∧
          FlagsAre s t (decide (a = v)) true (decide (a % 16 < v % 16)) (decide (a < v)) ∧
          { t with f := s.f } = passed (Form.alu .cp x) true s)

/-- AND s, XOR s and OR s (R217 to R219). -/
def Obligations.LogicAndFlags : Prop :=
  ∀ x : Src,
    Encodes (Form.alu .and x) (aluBytes 4 x) (aluCost x) (aluCost x) ∧ FetchStops (Form.alu .and x) ∧
    Encodes (Form.alu .xor x) (aluBytes 5 x) (aluCost x) (aluCost x) ∧ FetchStops (Form.alu .xor x) ∧
    Encodes (Form.alu .or x) (aluBytes 6 x) (aluCost x) (aluCost x) ∧ FetchStops (Form.alu .or x) ∧
    ∀ s : State, AluStops .and x s ∧ AluStops .xor x s ∧ AluStops .or x s ∧
      (present s x = true →
        AluResult .and x s (s.a.toNat &&& (value s x).toNat) false true false ∧
        AluResult .xor x s (s.a.toNat ^^^ (value s x).toNat) false false false ∧
        AluResult .or x s (s.a.toNat ||| (value s x).toNat) false false false)

/-- INC and DEC of a register or of (HL) (R223 to R226, with the helpers R221, R222): C keeps its value, and the two helpers
undo each other at every value. -/
def Obligations.StepsByOne : Prop :=
  (∀ x : Loc,
    Encodes (Form.inc x) [opByte (0x04 + 8 * locCode x)] (if x = .atHl then 12 else 4) (if x = .atHl then 12 else 4) ∧
    Encodes (Form.dec x) [opByte (0x05 + 8 * locCode x)] (if x = .atHl then 12 else 4) (if x = .atHl then 12 else 4) ∧
    ∀ s : State,
      (present s (.loc x) = true →
        let v := (value s (.loc x)).toNat
        (∃ t, exec (Form.inc x) s = .next t ∧ Rewritten (Form.inc x) s t x (opByte ((v + 1) % 256)) ∧
          FlagsAre s t (decide (v = 255)) false (decide (v % 16 = 15)) (s.flag .c)) ∧
        (∃ t, exec (Form.dec x) s = .next t ∧ Rewritten (Form.dec x) s t x (opByte ((v + 255) % 256)) ∧
          FlagsAre s t (decide (v = 1)) true (decide (v % 16 = 0)) (s.flag .c))) ∧
      (present s (.loc x) = false →
        exec (Form.inc x) s = endsOutOfRange s s.hl ∧ exec (Form.dec x) s = endsOutOfRange s s.hl)) ∧
  ∀ v : Byte,
    ((inc8 v).r.toNat = (v.toNat + 1) % 256 ∧ (inc8 v).z = decide ((inc8 v).r = 0) ∧ (inc8 v).n = false
      ∧ (inc8 v).h = decide (v.toNat % 16 = 15)) ∧
    ((dec8 v).r.toNat = (v.toNat + 255) % 256 ∧ (dec8 v).z = decide ((dec8 v).r = 0) ∧ (dec8 v).n = true
      ∧ (dec8 v).h = decide (v.toNat % 16 = 0)) ∧
    (dec8 (inc8 v).r).r = v ∧ (inc8 (dec8 v).r).r = v

/-- DAA (R227), its pseudocode over the integers. -/
def Obligations.DecimalAdjustFollowsItsPseudocode : Prop :=
  Encodes .daa [0x27] 4 4 ∧
  ∀ s : State,
    let a : Int := s.a.toNat
    let high := s.flag .c || (!s.flag .n && decide (a > 0x99))
    let a1 : Int := if s.flag .n then (if high then a - 0x60 else a) else (if high then a + 0x60 else a)
    let low := s.flag .h || (!s.flag .n && decide (a1 % 16 > 9))
    let a2 : Int := if s.flag .n then (if low then a1 - 0x06 else a1) else (if low then a1 + 0x06 else a1)
    ∃ t, exec .daa s = .next t ∧ (t.a.toNat : Int) = a2 % 256 ∧
      FlagsAre s t (decide (a2 % 256 = 0)) (s.flag .n) false high ∧
      { t with a := s.a, f := s.f } = passed .daa true s

/-- DAA makes BCD sums and differences of BCD bytes: after ADD A,B it leaves the two digits of the sum in A and the hundred in C,
after SUB B those of the difference modulo 100 and its borrow. -/
def Obligations.DecimalAdjustMakesBcd : Prop :=
  ∀ s : State, IsBcd s.a → IsBcd s.b →
    (∃ t u, exec .add_a_b s = .next t ∧ exec .daa t = .next u ∧ IsBcd u.a ∧
      decimal u.a = (decimal s.a + decimal s.b) % 100 ∧ u.flag .c = decide (decimal s.a + decimal s.b ≥ 100)) ∧
    (∃ t u, exec .sub_b s = .next t ∧ exec .daa t = .next u ∧ IsBcd u.a ∧
      decimal u.a = (decimal s.a + 100 - decimal s.b) % 100 ∧ u.flag .c = decide (decimal s.a < decimal s.b))

/-- CPL, SCF and CCF (R228 to R230). -/
def Obligations.ComplementAndCarryFlags : Prop :=
  (Encodes .cpl [0x2F] 4 4 ∧ Encodes .scf [0x37] 4 4 ∧ Encodes .ccf [0x3F] 4 4) ∧
  ∀ s : State,
    (∃ t, exec .cpl s = .next t ∧ t.a.toNat = 255 - s.a.toNat ∧ FlagsAre s t (s.flag .z) true true (s.flag .c) ∧
      { t with a := s.a, f := s.f } = passed .cpl true s) ∧
    (∃ t, exec .scf s = .next t ∧ FlagsAre s t (s.flag .z) false false true ∧ { t with f := s.f } = passed .scf true s) ∧
    (∃ t, exec .ccf s = .next t ∧ FlagsAre s t (s.flag .z) false false (!s.flag .c) ∧
      { t with f := s.f } = passed .ccf true s)

/-! 16-bit arithmetic. -/

/-- INC rr and DEC rr (spec/44_alu16.md R251, R252, with the helpers R250): no flag is written. -/
def Obligations.PairStepsByOne : Prop :=
  (∀ p : PairSp,
    Encodes (Form.incPair p) [opByte (0x03 + 16 * pairSpCode p)] 8 8 ∧
    Encodes (Form.decPair p) [opByte (0x0B + 16 * pairSpCode p)] 8 8 ∧
    ∀ s : State,
      (∃ t, exec (Form.incPair p) s = .next t ∧ (t.pairSp p).toNat = ((s.pairSp p).toNat + 1) % 65536 ∧
        t.setPairSp p (s.pairSp p) = passed (Form.incPair p) true s) ∧
      (∃ t, exec (Form.decPair p) s = .next t ∧ (t.pairSp p).toNat = ((s.pairSp p).toNat + 65535) % 65536 ∧
        t.setPairSp p (s.pairSp p) = passed (Form.decPair p) true s)) ∧
  ∀ v : Word,
    ((inc16 v).r.toNat = (v.toNat + 1) % 65536 ∧ (inc16 v).z = decide ((inc16 v).r = 0) ∧ (inc16 v).n = false) ∧
    ((dec16 v).r.toNat = (v.toNat + 65535) % 65536 ∧ (dec16 v).z = decide ((dec16 v).r = 0) ∧ (dec16 v).n = true)

/-- ADD HL,rr (R253): H is the carry out of bit 11, C the carry out of bit 15, Z is unchanged. -/
def Obligations.WordAdditionIntoHl : Prop :=
  ∀ p : PairSp, Encodes (Form.addHl p) [opByte (0x09 + 16 * pairSpCode p)] 8 8 ∧
    ∀ s : State,
      ∃ t, exec (Form.addHl p) s = .next t ∧ t.hl.toNat = (s.hl.toNat + (s.pairSp p).toNat) % 65536 ∧
        FlagsAre s t (s.flag .z) false (decide (s.hl.toNat % 4096 + (s.pairSp p).toNat % 4096 > 4095))
          (decide (s.hl.toNat + (s.pairSp p).toNat > 65535)) ∧
        { t with h := s.h, l := s.l, f := s.f } = passed (Form.addHl p) true s

/-! Rotates, shifts, bits. -/

/-- RLCA, RLA, RRCA and RRA (spec/46_rotate_shift_bit.md R310 to R313), bit by bit: Z, N and H are cleared. -/
def Obligations.AccumulatorRotates : Prop :=
  (Encodes .rlca [0x07] 4 4 ∧ Encodes .rrca [0x0F] 4 4 ∧ Encodes .rla [0x17] 4 4 ∧ Encodes .rra [0x1F] 4 4) ∧
  ∀ s : State,
    ∀ row ∈ [(Instr.rlca, ShiftOp.rlc), (Instr.rrca, ShiftOp.rrc), (Instr.rla, ShiftOp.rl), (Instr.rra, ShiftOp.rr)],
      ∃ t, exec row.1 s = .next t ∧
        (∀ k, k < 8 → t.a.getLsbD k = shiftedBit row.2 s.a (s.flag .c) k) ∧
        FlagsAre s t false false false (shiftedOut row.2 s.a) ∧
        { t with a := s.a, f := s.f } = passed row.1 true s

/-- RLC, RRC, RL, RR, SLA, SRA, SWAP and SRL of a register or of (HL) (R315 to R322, operand and cost R314), bit by bit. -/
def Obligations.ShiftsRewriteTheirOperand : Prop :=
  ∀ (op : ShiftOp) (x : Loc),
    Encodes (Form.shift op x) [0xCB, opByte (8 * shiftCode op + locCode x)] (cbRewriteCost x) (cbRewriteCost x) ∧
    ∀ s : State,
      (present s (.loc x) = true →
        ∃ t r, exec (Form.shift op x) s = .next t ∧ Rewritten (Form.shift op x) s t x r ∧
          (∀ k, k < 8 → r.getLsbD k = shiftedBit op (value s (.loc x)) (s.flag .c) k) ∧
          FlagsAre s t (decide (r = 0)) false false (shiftedOut op (value s (.loc x)))) ∧
      (present s (.loc x) = false → exec (Form.shift op x) s = endsOutOfRange s s.hl)

/-- BIT b,s (R323): Z is the complement of the bit, the operand is not written. -/
def Obligations.BitTestsWriteFlagsOnly : Prop :=
  ∀ (b : Fin 8) (x : Loc),
    Encodes (Form.bit b x) [0xCB, opByte (0x40 + 8 * b.val + locCode x)] (if x = .atHl then 12 else 8)
      (if x = .atHl then 12 else 8) ∧
    ∀ s : State,
      (present s (.loc x) = true →
        ∃ t, exec (Form.bit b x) s = .next t ∧
          FlagsAre s t (!(value s (.loc x)).getLsbD b.val) false true (s.flag .c) ∧
          { t with f := s.f } = passed (Form.bit b x) true s) ∧
      (present s (.loc x) = false → exec (Form.bit b x) s = endsOutOfRange s s.hl)

/-- RES b,s and SET b,s (R324, R325): one bit of the operand is given, the other seven and F stay. -/
def Obligations.BitsAreClearedAndSet : Prop :=
  ∀ (b : Fin 8) (x : Loc),
    Encodes (Form.res b x) [0xCB, opByte (0x80 + 8 * b.val + locCode x)] (cbRewriteCost x) (cbRewriteCost x) ∧
    Encodes (Form.set b x) [0xCB, opByte (0xC0 + 8 * b.val + locCode x)] (cbRewriteCost x) (cbRewriteCost x) ∧
    ∀ s : State,
      (present s (.loc x) = true →
        (∃ t r, exec (Form.res b x) s = .next t ∧ Rewritten (Form.res b x) s t x r ∧ t.f = s.f ∧
          ∀ k, k < 8 → r.getLsbD k = if k = b.val then false else (value s (.loc x)).getLsbD k) ∧
        (∃ t r, exec (Form.set b x) s = .next t ∧ Rewritten (Form.set b x) s t x r ∧ t.f = s.f ∧
          ∀ k, k < 8 → r.getLsbD k = if k = b.val then true else (value s (.loc x)).getLsbD k)) ∧
      (present s (.loc x) = false →
        exec (Form.res b x) s = endsOutOfRange s s.hl ∧ exec (Form.set b x) s = endsOutOfRange s s.hl)

/-- The CB-prefixed format (spec/30_encoding.md R111): the byte after 0xCB selects one of the 256 entries of the sub-table by its
fields x, y and z; the two bytes are one instruction with one cost; the row CB_prefix (its meaning is the model's choice,
notes/assumptions/8.md) does what that instruction does and completes whenever its operand exists. -/
def Obligations.PrefixSelectsTheSubTable : Prop :=
  ∀ sub : Byte,
    let x := locOf (fieldZ sub)
    let y : Fin 8 := (fieldY sub).toFin
    let i := if fieldX sub = 0 then Form.shift (shiftOpOf (fieldY sub)) x
      else if fieldX sub = 1 then Form.bit y x
      else if fieldX sub = 2 then Form.res y x
      else Form.set y x
    (∀ rest : List Byte, decode (0xCB :: sub :: rest) = .ok (i, rest)) ∧
    locCode x = (fieldZ sub).toNat ∧ shiftCode (shiftOpOf (fieldY sub)) = (fieldY sub).toNat ∧
    (∀ s : State, exec (.cb_prefix sub) s = exec i s) ∧
    ∀ s : State, present s (.loc x) = true →
      ∃ t, exec (.cb_prefix sub) s = .next t ∧ t.pc = s.pc + 2 ∧ t.icount = s.icount + 1 ∧
        t.cycles = s.cycles + s.cfg.cost (.cb sub) true

/-! Control transfer. -/

/-- JR e8 and JR cc,e8 (spec/42_jumps.md R190, R191): the target is the address after the instruction plus the signed
displacement, modulo 2^16. -/
def Obligations.RelativeJumps : Prop :=
  ∀ e : Byte,
    (Encodes (.jr_e8 e) [0x18, e] 12 12 ∧ FetchStops (.jr_e8 e) ∧
      ∀ s : State, ∃ t, exec (.jr_e8 e) s = .next t ∧ (t.pc.toNat : Int) = (s.pc.toNat + 2 + signedValue e) % 65536 ∧
        { t with pc := (passed (.jr_e8 e) true s).pc } = passed (.jr_e8 e) true s) ∧
    ∀ cc : Cond,
      Encodes (Form.jrIf cc e) [opByte (0x20 + 8 * ccCode cc), e] 12 8 ∧ FetchStops (Form.jrIf cc e) ∧
      ∀ s : State,
        (holdsOn s cc = true →
          ∃ t, exec (Form.jrIf cc e) s = .next t ∧ (t.pc.toNat : Int) = (s.pc.toNat + 2 + signedValue e) % 65536 ∧
            { t with pc := (passed (Form.jrIf cc e) true s).pc } = passed (Form.jrIf cc e) true s) ∧
        (holdsOn s cc = false → exec (Form.jrIf cc e) s = .next (passed (Form.jrIf cc e) false s))

/-- JP a16, JP cc,a16 and JP HL (R192 to R194). -/
def Obligations.AbsoluteJumps : Prop :=
  (∀ x : Word,
    (Encodes (.jp_a16 x) [0xC3, loByte x, hiByte x] 16 16 ∧ FetchStops (.jp_a16 x) ∧
      ∀ s : State, exec (.jp_a16 x) s = .next { passed (.jp_a16 x) true s with pc := x }) ∧
    ∀ cc : Cond,
      Encodes (Form.jpIf cc x) [opByte (0xC2 + 8 * ccCode cc), loByte x, hiByte x] 16 12 ∧ FetchStops (Form.jpIf cc x) ∧
      ∀ s : State,
        (holdsOn s cc = true → exec (Form.jpIf cc x) s = .next { passed (Form.jpIf cc x) true s with pc := x }) ∧
        (holdsOn s cc = false → exec (Form.jpIf cc x) s = .next (passed (Form.jpIf cc x) false s))) ∧
  Encodes .jp_hl [0xE9] 4 4 ∧
  ∀ s : State, ∃ t, exec .jp_hl s = .next t ∧ t.pc.toNat = s.h.toNat * 256 + s.l.toNat ∧
    { t with pc := (passed .jp_hl true s).pc } = passed .jp_hl true s

/-- PUSH rr (spec/41_stack_calls.md R164): the high register at SP - 1, the low one at SP - 2; PUSH AF pushes F. -/
def Obligations.PushesStoreThePair : Prop :=
  ∀ p : PairAf, Encodes (Form.push p) [opByte (0xC5 + 16 * pairAfCode p)] 16 16 ∧
    ∀ s : State, PushStops s (exec (Form.push p) s) ∧
      (PushExists s →
        ∃ t, exec (Form.push p) s = .next t ∧ t.sp = s.sp - 2 ∧
          StoresPushed s t (pairAfBytes s p).1 (pairAfBytes s p).2 ∧
          (p = .af → s.f &&& 0x0F = 0 → t.byteAt (s.sp - 2) &&& 0x0F = 0) ∧
          { t with sp := s.sp, mem := s.mem } = passed (Form.push p) true s)

/-- POP BC, POP DE and POP HL (R165): the low byte at SP, the high byte above it. -/
def Obligations.PopsLoadThePair : Prop :=
  ∀ p : PairAf, p ≠ .af → Encodes (Form.pop p) [opByte (0xC1 + 16 * pairAfCode p)] 12 12 ∧
    ∀ s : State, PopStops s (exec (Form.pop p) s) ∧
      (PopExists s →
        ∃ t, exec (Form.pop p) s = .next t ∧ t.sp = s.sp + 2 ∧
          pairAfBytes t p = (s.byteAt (s.sp + 1), s.byteAt s.sp) ∧
          { t.setPairAf p (s.pairAf p) with sp := s.sp, f := s.f } = passed (Form.pop p) true s ∧ t.f = s.f)

/-- The pair AF and POP AF (R166; spec/10_state.md R33, R36, which the spec marks as derived from F's low nibble being always
zero): a write of the pair loses F's low nibble, so that only a value whose low nibble is zero survives the round trip, and POP
AF takes the four flags from the byte at SP and clears the rest. -/
def Obligations.AfKeepsTheLowNibbleZero : Prop :=
  (∀ (s : State) (v : Word), s.af.toNat = s.a.toNat * 256 + s.f.toNat ∧ (s.setAf v).a.toNat = v.toNat / 256 ∧
    (s.setAf v).f.toNat = v.toNat % 256 / 16 * 16 ∧ { s.setAf v with a := s.a, f := s.f } = s ∧
    ((s.setAf v).af = v ↔ v.toNat % 16 = 0)) ∧
  Encodes .pop_af [0xF1] 12 12 ∧
  ∀ s : State, PopStops s (exec .pop_af s) ∧
    (PopExists s →
      ∃ t, exec .pop_af s = .next t ∧ t.sp = s.sp + 2 ∧ t.a = s.byteAt (s.sp + 1) ∧
        t.f.toNat = (s.byteAt s.sp).toNat / 16 * 16 ∧
        (t.flag .z = (s.byteAt s.sp).getLsbD 7 ∧ t.flag .n = (s.byteAt s.sp).getLsbD 6 ∧
          t.flag .h = (s.byteAt s.sp).getLsbD 5 ∧ t.flag .c = (s.byteAt s.sp).getLsbD 4) ∧
        { t with a := s.a, f := s.f, sp := s.sp } = passed .pop_af true s)

/-- CALL a16, CALL cc,a16 and RST t (R167, R168, R172): the address after the instruction is pushed, the high byte first. A CALL
and then a RET leave PC after the CALL's operand and SP unchanged. -/
def Obligations.CallsPushTheReturnAddress : Prop :=
  (∀ x : Word,
    (Encodes (.call_a16 x) [0xCD, loByte x, hiByte x] 24 24 ∧ FetchStops (.call_a16 x) ∧
      ∀ s : State, PushStops s (exec (.call_a16 x) s) ∧
        (PushExists s → ∃ t, exec (.call_a16 x) s = .next t ∧ Called (.call_a16 x) s t x)) ∧
    ∀ cc : Cond,
      Encodes (Form.callIf cc x) [opByte (0xC4 + 8 * ccCode cc), loByte x, hiByte x] 24 12 ∧ FetchStops (Form.callIf cc x) ∧
      ∀ s : State,
        (holdsOn s cc = true → PushStops s (exec (Form.callIf cc x) s) ∧
          (PushExists s → ∃ t, exec (Form.callIf cc x) s = .next t ∧ Called (Form.callIf cc x) s t x)) ∧
        (holdsOn s cc = false → exec (Form.callIf cc x) s = .next (passed (Form.callIf cc x) false s))) ∧
  (∀ y : Fin 8, Encodes (Form.rst y) [opByte (0xC7 + 8 * y.val)] 16 16 ∧
    ∀ s : State, PushStops s (exec (Form.rst y) s) ∧
      (PushExists s → ∃ t, exec (Form.rst y) s = .next t ∧ Called (Form.rst y) s t (BitVec.ofNat 16 (8 * y.val)))) ∧
  ∀ (s : State) (x : Word), PushExists s →
    ∃ t u, exec (.call_a16 x) s = .next t ∧ exec .ret t = .next u ∧ u.pc = s.pc + 3 ∧ u.sp = s.sp ∧
      { u with mem := s.mem, pc := s.pc, cycles := s.cycles, icount := s.icount } = s

/-- RET, RET cc and RETI (R169 to R171): PC is the word at SP; RETI sets IME at once. -/
def Obligations.ReturnsPopThePc : Prop :=
  (Encodes .ret [0xC9] 16 16 ∧ ∀ s : State, PopStops s (exec .ret s) ∧
    (PopExists s → ∃ t, exec .ret s = .next t ∧ Returned .ret s t)) ∧
  (∀ cc : Cond, Encodes (Form.retIf cc) [opByte (0xC0 + 8 * ccCode cc)] 20 8 ∧
    ∀ s : State,
      (holdsOn s cc = true → PopStops s (exec (Form.retIf cc) s) ∧
        (PopExists s → ∃ t, exec (Form.retIf cc) s = .next t ∧ Returned (Form.retIf cc) s t)) ∧
      (holdsOn s cc = false → exec (Form.retIf cc) s = .next (passed (Form.retIf cc) false s))) ∧
  Encodes .reti [0xD9] 16 16 ∧ ∀ s : State, PopStops s (exec .reti s) ∧
    (PopExists s → ∃ t, exec .reti s = .next t ∧ t.ime = true ∧ Returned .reti s { t with ime := s.ime })

/-! Control and illegal opcodes. -/

/-- NOP, HALT, STOP, DI and EI (spec/47_control.md R350 to R354). -/
def Obligations.ControlInstructions : Prop :=
  (Encodes .nop [0x00] 4 4 ∧ Encodes .halt [0x76] 4 4 ∧ Encodes .di [0xF3] 4 4 ∧ Encodes .ei [0xFB] 4 4 ∧
    ∀ v : Byte, Encodes (.stop v) [0x10, v] 4 4 ∧ FetchStops (.stop v)) ∧
  ∀ s : State,
    exec .nop s = .next (passed .nop true s) ∧
    exec .halt s = .next { passed .halt true s with run := .sleeping .halt } ∧
    (∀ v : Byte, exec (.stop v) s = .next { passed (.stop v) true s with run := .sleeping .stop }) ∧
    exec .di s = .next { passed .di true s with ime := false } ∧
    exec .ei s = .next { passed .ei true s with ime := true }

/-- The 11 illegal opcodes (spec/30_encoding.md R114; spec/40_engine.md R140): the row's whole effect is the fatal condition,
with the byte and the address of the opcode, and nothing else changes. That the rows have a meaning of their own is the model's
choice (notes/assumptions/7.md). -/
def Obligations.IllegalOpcodesHalt : Prop :=
  ∀ (s : State),
    ∀ row ∈ [((0xD3 : Byte), Instr.illegal_d3), (0xDB, .illegal_db), (0xDD, .illegal_dd), (0xE3, .illegal_e3),
        (0xE4, .illegal_e4), (0xEB, .illegal_eb), (0xEC, .illegal_ec), (0xED, .illegal_ed), (0xF4, .illegal_f4),
        (0xFC, .illegal_fc), (0xFD, .illegal_fd)],
      encode row.2 = [row.1] ∧
      exec row.2 s = .next { s with run := .halted (.unimplementedOpcode row.1 s.pc false) } ∧
      ∀ p : Params, p.implements (.primary row.1) = false

/-! Frames over the whole instruction set. -/

/-- A flag an instruction does not write keeps its value (spec/10_state.md R37), and F's low nibble does unless POP AF clears it. -/
def Obligations.UnwrittenFlagsAreKept : Prop :=
  ∀ (i : Instr) (s t : State), exec i s = .next t →
    (∀ x : Flag, writesFlag x i.key = false → t.flag x = s.flag x) ∧
    (t.f &&& 0x0F = s.f &&& 0x0F ∨ i = .pop_af ∧ t.f &&& 0x0F = 0)

/-- Every byte outside the addresses an instruction stores to reads as before; a form that stores nothing changes no byte. -/
def Obligations.OtherBytesAreKept : Prop :=
  ∀ (i : Instr) (s t : State), exec i s = .next t →
    ∀ x : Word, x ∉ storedAddresses i s → t.byteAt x = s.byteAt x

/-- Outside IME's three writers and the two instructions that sleep, no instruction writes IME or the run state short of a fatal
halt; and no instruction writes the parameters, the port or the hook counter. -/
def Obligations.ControlStateIsKept : Prop :=
  ∀ (i : Instr) (s t : State), exec i s = .next t →
    t.cfg = s.cfg ∧ t.port = s.port ∧ t.hookCalls = s.hookCalls ∧
    (i ≠ .di → i ≠ .ei → i ≠ .reti → t.ime = s.ime) ∧
    (t.run = s.run ∨ (∃ r, t.run = .halted r) ∨ i = .halt ∧ t.run = .sleeping .halt ∨
      ∃ v, i = .stop v ∧ t.run = .sleeping .stop)

/-! The engine. -/

/-- A step runs the instruction that the bytes at PC decode to (spec/40_engine.md R132 to R138, R144): when those bytes exist,
the key is implemented and no request is taken, the step is `exec` of that instruction, then the frame check unless the
instruction ended in a fatal halt. That a request not taken is behind the core after the step (`nextBoundary`) is the model's
choice (notes/assumptions/16.md), and so is the form of the frame check's free draws, `Config.hookByte` of the count of hook
calls (notes/assumptions/3.md, 4.md). -/
def Obligations.StepRunsTheDecodedInstruction : Prop :=
  ∀ (s : State) (n : Nat) (i : Instr) (rest : List Byte), s.run = .running →
    (s.ime = false ∨ ∀ v, s.request ≠ .irq v) →
    WindowExists s n → decode (window s n) = .ok (i, rest) → s.cfg.implements i.key = true →
    ∃ t u, exec i s.nextBoundary = .next t ∧ step s = .next u ∧
      (t.isHalted = true → u = t) ∧ (t.isHalted = false → FrameChecked t u)

/-- The conditions of a fetch (R140, R142), in the order of spec/60_exceptions.md R372: the opcode byte does not exist; the
sub-opcode byte does not exist; the key has no table entry, whatever of its operand bytes exists; an operand byte does not
exist. Each ends the step in Halted and changes nothing else. -/
def Obligations.FetchConditionsHaltInOrder : Prop :=
  (∀ i : Instr, FetchStops i) ∧
  (∀ s : State, s.run = .running → s.cfg.irqPort = false →
    (s.inRange s.pc = false → step s = endsOutOfRange s s.pc) ∧
    (s.inRange s.pc = true → s.byteAt s.pc = 0xCB → s.inRange (s.pc + 1) = false →
      step s = endsOutOfRange s (s.pc + 1))) ∧
  ∀ s : State, s.run = .running → s.cfg.irqPort = false → s.inRange s.pc = true →
    (s.byteAt s.pc ≠ 0xCB → s.cfg.implements (.primary (s.byteAt s.pc)) = false →
      step s = .next { s with run := .halted (.unimplementedOpcode (s.byteAt s.pc) s.pc false) }) ∧
    (s.byteAt s.pc = 0xCB → s.inRange (s.pc + 1) = true → s.cfg.implements (.cb (s.byteAt (s.pc + 1))) = false →
      step s = .next { s with run := .halted (.unimplementedOpcode (s.byteAt (s.pc + 1)) s.pc true) })

/-- The frame check after an executed instruction (R138, R139). That the renderer's bytes are `Config.hookByte` of the count of
hook calls, at the addresses of RENDER_WRITES that exist, is the model's choice of a form for the spec's free draws
(notes/assumptions/3.md, 4.md). -/
def Obligations.FrameHookFiresAboveTheThreshold : Prop :=
  ∀ (s t : State) (i : Instr), s.run = .running → s.cfg.irqPort = false → fetchInstr s = .instr i →
    exec i s = .next t → t.isHalted = false →
    ∃ u, step s = .next u ∧
      (t.cycles ≤ s.cfg.frameCycles → u = t) ∧
      (s.cfg.frameCycles < t.cycles →
        u.cycles = 0 ∧ (∀ x : Word, x ∉ s.cfg.renderWrites → u.byteAt x = t.byteAt x) ∧
        (∀ x : Word, x ∈ s.cfg.renderWrites → t.inRange x = true → u.byteAt x = Config.hookByte t.hookCalls x.toNat) ∧
        { u with cycles := t.cycles, mem := t.mem, hookCalls := t.hookCalls } = t)

/-- An idle step (R143): in Sleeping(Halt) 4 cycles and the frame check, in Sleeping(Stop) nothing. That the boundary just passed
is behind the core (`nextBoundary`) is the model's choice (notes/assumptions/16.md), and so is the form of the frame check's free
draws (notes/assumptions/3.md, 4.md). -/
def Obligations.SleepingCoresIdle : Prop :=
  ∀ s : State, s.request = .none →
    (s.run = .sleeping .halt →
      ∃ u, step s = .next u ∧ FrameChecked { s.nextBoundary with cycles := s.cycles + 4 } u ∧
        u.run = s.run ∧ u.pc = s.pc) ∧
    (s.run = .sleeping .stop → step s = .next s.nextBoundary) ∧
    (s.cfg.irqPort = false → s.nextBoundary = s)

/-- The injected call (spec/60_exceptions.md R378, R379): taken in Running and Sleeping(Halt) when IME is set; not taken in
Running when IME is clear, where the next instruction runs instead; in Sleeping(Halt) with IME clear, and in Sleeping(Stop)
whatever IME holds, an `irq` acts as a wake. That the request is behind the core after the step, taken or not and also when the
step ends in a fatal halt (`nextBoundary`, the port's tail), is the model's choice (notes/assumptions/16.md), and so is the form
of the frame check's free draws (notes/assumptions/3.md, 4.md). -/
def Obligations.InjectedCallsAreTaken : Prop :=
  (IrqVector.vblank.address = 0x0040 ∧ IrqVector.lcdStatus.address = 0x0048 ∧ IrqVector.timer.address = 0x0050 ∧
    IrqVector.serial.address = 0x0058 ∧ IrqVector.joypad.address = 0x0060) ∧
  ∀ (s : State) (v : IrqVector), s.request = .irq v →
    (s.ime = true → s.run = .running ∨ s.run = .sleeping .halt →
      (PushExists s →
        ∃ t u, step s = .next u ∧ FrameChecked t u ∧
          t.ime = false ∧ t.run = .running ∧ t.pc = v.address ∧ t.sp = s.sp - 2 ∧ t.cycles = s.cycles + 20 ∧
          StoresPushed s t (hiByte s.pc) (loByte s.pc) ∧
          { t with ime := s.ime, run := s.run, pc := s.pc, sp := s.sp, cycles := s.cycles, mem := s.mem }
            = s.nextBoundary) ∧
      (s.inRange (s.sp - 1) = false → step s = endsOutOfRange s.nextBoundary (s.sp - 1)) ∧
      (s.inRange (s.sp - 1) = true → s.inRange (s.sp - 2) = false →
        step s = endsOutOfRange s.nextBoundary (s.sp - 2))) ∧
    (s.ime = false → s.run = .running → step s = step { s with port := .none :: s.port.tail }) ∧
    (s.run = .sleeping .stop ∨ s.run = .sleeping .halt ∧ s.ime = false →
      step s = .next { s.nextBoundary with run := .running })

/-- Wake (R380): it makes a sleeping core run and does nothing else in that step; in Running it is ignored. That the request is
behind the core after the step, acted on or ignored, is the model's choice (notes/assumptions/16.md). -/
def Obligations.WakeOnlyRuns : Prop :=
  ∀ s : State,
    (s.request = .wake → (∃ k, s.run = .sleeping k) → step s = .next { s.nextBoundary with run := .running }) ∧
    (s.request = .wake → s.run = .running → step s = step { s with port := .none :: s.port.tail })

/-- With the injection port tied off, no interrupt reaches the core and IME affects nothing but its own value (R375): two states
that differ in IME and in what the port would present step to states that differ in these alone. -/
def Obligations.ImeAffectsNothingElse : Prop :=
  ∀ (s t : State) (b : Bool) (requests : List PortRequest), s.cfg.irqPort = false → step s = .next t →
    ∃ u, step { s with ime := b, port := requests } = .next u ∧ { u with ime := t.ime, port := t.port } = t

/-- Nothing but DI, EI, RETI and an injected call writes IME, read from spec/10_state.md section 5 and spec/60_exceptions.md
section 4: a step that changes it is one of these, and in the direction that one writes. That each does write it is stated by
`ControlInstructions`, `ReturnsPopThePc` and `InjectedCallsAreTaken`. -/
def Obligations.ImeHasFourWriters : Prop :=
  ∀ s t : State, step s = .next t → t.ime ≠ s.ime →
    (t.ime = false ∧ ∃ v, s.request = .irq v) ∨
    (s.run = .running ∧
      (t.ime = false ∧ s.byteAt s.pc = 0xF3 ∨ t.ime = true ∧ (s.byteAt s.pc = 0xFB ∨ s.byteAt s.pc = 0xD9)))

/-- A fatal condition is precise (R373) and terminal (R141): a step that ends in Halted changes no register, no flag, no memory
byte, no counter, only the run state (and the port has presented its request); from a halted state no run of one step or more
goes on, and each stops with the record (the fault is how the model says that no step follows: notes/assumptions/6.md). That a
step which ends in Halted has the port's request behind it (`nextBoundary`) is the model's choice (notes/assumptions/16.md). -/
def Obligations.FatalConditionsArePreciseAndTerminal : Prop :=
  (∀ s t : State, step s = .next t → t.isHalted = true →
    { t with run := s.run } = s.nextBoundary ∧ s.nextBoundary.mem = s.mem) ∧
  ∀ (s : State) (r : FaultRecord) (k : Nat), s.run = .halted r →
    Host.Core.run Sys2Proof.core (k + 1) s = .fault (.halted r)

/-- No legal instruction raises anything when every address exists (R371, R382): it completes in every state and mode, is
counted once, and leaves the core not halted. -/
def Obligations.LegalInstructionsComplete : Prop :=
  ∀ (i : Instr) (s : State), i.key.legal = true → s.FullMemory → s.isHalted = false →
    ∃ t, exec i s = .next t ∧ t.icount = s.icount + 1 ∧ t.isHalted = false ∧ s.cycles ≤ t.cycles

/-- The instruction count (spec/10_state.md R42): a step adds one exactly when it executes an instruction to completion; an idle
step, a wake, an injected call and a fatal halt add nothing. -/
def Obligations.InstructionsAreCounted : Prop :=
  ∀ s t : State, step s = .next t →
    (s.run = .running → t.isHalted = false → (s.ime = false ∨ ∀ v, s.request ≠ .irq v) → t.icount = s.icount + 1) ∧
    (s.run ≠ .running ∨ t.isHalted = true ∨ s.ime = true ∧ (∃ v, s.request = .irq v) → t.icount = s.icount)

/-- The cycle accumulator (R41, spec/70 R411, which the spec marks as derived from the costs): with the
default costs no instruction adds more than 24, so from a state at or below FRAME_CYCLES it never exceeds FRAME_CYCLES + 24, and
it is at or below FRAME_CYCLES after every step. -/
def Obligations.CyclesAreBounded : Prop :=
  (∀ (i : Instr) (s t : State), s.cfg.costs = [] → exec i s = .next t →
    t.cycles ≤ s.cycles + 24 ∧ (s.cycles ≤ s.cfg.frameCycles → t.cycles ≤ s.cfg.frameCycles + 24)) ∧
  ∀ s t : State, s.cycles ≤ s.cfg.frameCycles → step s = .next t → t.cycles ≤ s.cfg.frameCycles

/-- No register, flag or memory byte depends on a cost (spec/70_reset_and_hazards.md R412): with another cost table and another
accumulator an instruction leaves the same state but for the accumulator. -/
def Obligations.CostsDecideOnlyCycles : Prop :=
  ∀ (i : Instr) (s t : State) (costs : List CostEntry) (n : Nat), exec i s = .next t →
    ∃ u, exec i { s with cfg := { s.cfg with costs := costs }, cycles := n } = .next u ∧
      { u with cfg := t.cfg, cycles := t.cycles } = t

/-- Every step keeps the invariant: canonical memory that lists only bytes of the store, F's low nibble zero, the accumulator at
or below FRAME_CYCLES, the parameters fixed and in range. -/
def Obligations.EveryStepKeepsTheInvariant : Prop :=
  ∀ s t : State, s.Inv → step s = .next t → t.Inv ∧ t.cfg = s.cfg

/-- The state after construction meets the invariant. -/
def Obligations.ResetMeetsTheInvariant : Prop := State.reset.Inv

/-- Each run of a machine whose every address exists and whose keys are all implemented goes on unless an illegal opcode stands
at PC: a step from a state that is not halted is a next state, halted only at an illegal opcode (R371, R370). -/
def Obligations.OnlyIllegalOpcodesEndARun : Prop :=
  ∀ s : State, s.FullMemory → s.cfg.removed = [] → s.isHalted = false →
    ∃ t, step s = .next t ∧
      (t.isHalted = true → s.run = .running ∧ s.byteAt s.pc ∈ illegalOpcodes ∧
        t.run = .halted (.unimplementedOpcode (s.byteAt s.pc) s.pc false))
end

