-- ==== Sys2Proof/Laws/Bits.lean ====
section
/-! SUPPORT. Splitting and joining 16-bit values (spec/10_state.md R32). -/

namespace Sys2Proof

@[simp] theorem hiByte_wordOf (hi lo : Byte) : hiByte (wordOf hi lo) = hi := by
  apply BitVec.eq_of_getLsbD_eq
  intro i hi'
  have h : ¬ 8 + i < 8 := by omega
  simp only [hiByte, wordOf, BitVec.getLsbD_extractLsb', BitVec.getLsbD_append, hi', h, if_false, decide_true, Bool.true_and,
    Nat.add_sub_cancel_left]

@[simp] theorem loByte_wordOf (hi lo : Byte) : loByte (wordOf hi lo) = lo := by
  apply BitVec.eq_of_getLsbD_eq
  intro i hi'
  simp only [loByte, wordOf, BitVec.getLsbD_extractLsb', BitVec.getLsbD_append, Nat.zero_add, hi', if_true, decide_true,
    Bool.true_and]

/-- A 16-bit value is its two bytes. -/
@[simp] theorem wordOf_hiByte_loByte (v : Word) : wordOf (hiByte v) (loByte v) = v := by
  apply BitVec.eq_of_getLsbD_eq
  intro i hi'
  simp only [wordOf, hiByte, loByte, BitVec.getLsbD_append, BitVec.getLsbD_extractLsb']
  by_cases h : i < 8
  · simp [h]
  · have h8 : i - 8 < 8 := by omega
    have e : 8 + (i - 8) = i := by omega
    simp [h, h8, e]

namespace Machine

@[simp] theorem State.bc_setBc (s : State) (v : Word) : (s.setBc v).bc = v := wordOf_hiByte_loByte v
@[simp] theorem State.de_setDe (s : State) (v : Word) : (s.setDe v).de = v := wordOf_hiByte_loByte v
@[simp] theorem State.hl_setHl (s : State) (v : Word) : (s.setHl v).hl = v := wordOf_hiByte_loByte v

/-- A pair of R16sp reads back what was written. -/
@[simp] theorem State.pairSp_setPairSp (s : State) (p : PairSp) (v : Word) : (s.setPairSp p v).pairSp p = v := by
  cases p
  · exact State.bc_setBc s v
  · exact State.de_setDe s v
  · exact State.hl_setHl s v
  · rfl

end Machine

end Sys2Proof
end

