-- ==== Sys2Proof/Laws/Encoding.lean ====
section
/-! SUPPORT. The decoder's tables against the encoder: what the entry of each opcode encodes as, and the layouts an encoding
can have (spec/30_encoding.md R100, R111). -/

namespace Sys2Proof

/-- What an entry of the primary table says of the opcode it stands at: its instructions are encoded by that opcode and the
entry's operand bytes. -/
def EntryOk (op : Byte) : Entry → Prop
  | .bare i => encode i = [op] ∧ i.wellFormed = true
  | .byte f => ∀ v, op ≠ cbByte → encode (f v) = [op, v] ∧ (f v).wellFormed = true
  | .word f => ∀ v, encode (f v) = [op, loByte v, hiByte v] ∧ (f v).wellFormed = true

/-- Each row of the primary table, by the two digits of its opcode. -/
theorem primaryEntry_row_ok (k j : Fin 16) :
    EntryOk (BitVec.ofNat 8 (16 * k.val + j.val)) (primaryEntry (BitVec.ofNat 8 (16 * k.val + j.val))) := by
  match k, j with
  | ⟨k, hk⟩, ⟨j, hj⟩ =>
    iterate 16
      (rcases k with _ | k
       · (iterate 16
            (rcases j with _ | j
             · (first
                | exact ⟨rfl, rfl⟩
                | exact fun v => ⟨rfl, rfl⟩
                | exact fun v _ => ⟨rfl, rfl⟩
                | exact fun v h => absurd rfl h)))
         omega)
    omega

/-- Every entry of the primary table stands at the opcode its instructions are encoded by. -/
theorem primaryEntry_ok (op : Byte) : EntryOk op (primaryEntry op) := by
  have h := primaryEntry_row_ok ⟨op.toNat / 16, by have := op.isLt; omega⟩ ⟨op.toNat % 16, by omega⟩
  simpa [show 16 * (op.toNat / 16) + op.toNat % 16 = op.toNat by omega] using h

/-- Every entry of the sub-table stands at the sub-opcode its instruction is encoded by. -/
theorem cbEntry_ok (sub : Byte) : encode (cbEntry sub) = [cbByte, sub] ∧ (cbEntry sub).wellFormed = true := by
  suffices h : ∀ n : Fin 256, encode (cbEntry (BitVec.ofNat 8 n.val)) = [cbByte, BitVec.ofNat 8 n.val]
      ∧ (cbEntry (BitVec.ofNat 8 n.val)).wellFormed = true by
    simpa using h ⟨sub.toNat, sub.isLt⟩
  decide +kernel

/-- The layout of an instruction's bytes, with the entry that reads its operand. -/
inductive Layout (i : Instr) : Prop
  | cb (sub : Byte) (h : encode i = [cbByte, sub])
  | bare (op : Byte) (hc : op ≠ cbByte) (h : encode i = [op])
  | byte (op v : Byte) (f : Byte → Instr) (hc : op ≠ cbByte) (h : encode i = [op, v]) (hf : primaryEntry op = .byte f)
  | word (op lo hi : Byte) (f : Word → Instr) (hc : op ≠ cbByte) (h : encode i = [op, lo, hi])
      (hf : primaryEntry op = .word f)

/-- Every instruction has one of the four layouts. -/
theorem layout (i : Instr) : Layout i := by
  cases i
  all_goals first
    | exact .cb _ rfl
    | exact .bare _ (by decide) rfl
    | exact .byte _ _ _ (by decide) rfl rfl
    | exact .word _ _ _ _ (by decide) rfl rfl

/-- How an opcode with a 16-bit operand is decoded. -/
theorem decode_word {f : Word → Instr} {op : Byte} (h : primaryEntry op = .word f) (hc : op ≠ cbByte) (v : Word)
    (rest : List Byte) : decode (op :: loByte v :: hiByte v :: rest) = .ok (f v, rest) := by
  unfold decode
  simp only [if_neg hc, h, wordOf_hiByte_loByte]

end Sys2Proof
end

