-- ==== Sys2Proof/Laws/State.lean ====
section
/-! SUPPORT. One lemma per field per update of the state, so that no proof unfolds a record update. -/

namespace Sys2Proof.Machine

/-! The operations of Machine/Ops.lean. -/

@[simp] theorem State.setSp_a (s : State) (v : Word) : (s.setSp v).a = s.a := rfl
@[simp] theorem State.setSp_f (s : State) (v : Word) : (s.setSp v).f = s.f := rfl
@[simp] theorem State.setSp_b (s : State) (v : Word) : (s.setSp v).b = s.b := rfl
@[simp] theorem State.setSp_c (s : State) (v : Word) : (s.setSp v).c = s.c := rfl
@[simp] theorem State.setSp_d (s : State) (v : Word) : (s.setSp v).d = s.d := rfl
@[simp] theorem State.setSp_e (s : State) (v : Word) : (s.setSp v).e = s.e := rfl
@[simp] theorem State.setSp_h (s : State) (v : Word) : (s.setSp v).h = s.h := rfl
@[simp] theorem State.setSp_l (s : State) (v : Word) : (s.setSp v).l = s.l := rfl
@[simp] theorem State.setSp_sp (s : State) (v : Word) : (s.setSp v).sp = v := rfl
@[simp] theorem State.setSp_pc (s : State) (v : Word) : (s.setSp v).pc = s.pc := rfl
@[simp] theorem State.setSp_ime (s : State) (v : Word) : (s.setSp v).ime = s.ime := rfl
@[simp] theorem State.setSp_cycles (s : State) (v : Word) : (s.setSp v).cycles = s.cycles := rfl
@[simp] theorem State.setSp_icount (s : State) (v : Word) : (s.setSp v).icount = s.icount := rfl
@[simp] theorem State.setSp_run (s : State) (v : Word) : (s.setSp v).run = s.run := rfl
@[simp] theorem State.setSp_mem (s : State) (v : Word) : (s.setSp v).mem = s.mem := rfl
@[simp] theorem State.setSp_cfg (s : State) (v : Word) : (s.setSp v).cfg = s.cfg := rfl
@[simp] theorem State.setSp_port (s : State) (v : Word) : (s.setSp v).port = s.port := rfl
@[simp] theorem State.setSp_hookCalls (s : State) (v : Word) : (s.setSp v).hookCalls = s.hookCalls := rfl

@[simp] theorem State.setPc_a (s : State) (v : Word) : (s.setPc v).a = s.a := rfl
@[simp] theorem State.setPc_f (s : State) (v : Word) : (s.setPc v).f = s.f := rfl
@[simp] theorem State.setPc_b (s : State) (v : Word) : (s.setPc v).b = s.b := rfl
@[simp] theorem State.setPc_c (s : State) (v : Word) : (s.setPc v).c = s.c := rfl
@[simp] theorem State.setPc_d (s : State) (v : Word) : (s.setPc v).d = s.d := rfl
@[simp] theorem State.setPc_e (s : State) (v : Word) : (s.setPc v).e = s.e := rfl
@[simp] theorem State.setPc_h (s : State) (v : Word) : (s.setPc v).h = s.h := rfl
@[simp] theorem State.setPc_l (s : State) (v : Word) : (s.setPc v).l = s.l := rfl
@[simp] theorem State.setPc_sp (s : State) (v : Word) : (s.setPc v).sp = s.sp := rfl
@[simp] theorem State.setPc_pc (s : State) (v : Word) : (s.setPc v).pc = v := rfl
@[simp] theorem State.setPc_ime (s : State) (v : Word) : (s.setPc v).ime = s.ime := rfl
@[simp] theorem State.setPc_cycles (s : State) (v : Word) : (s.setPc v).cycles = s.cycles := rfl
@[simp] theorem State.setPc_icount (s : State) (v : Word) : (s.setPc v).icount = s.icount := rfl
@[simp] theorem State.setPc_run (s : State) (v : Word) : (s.setPc v).run = s.run := rfl
@[simp] theorem State.setPc_mem (s : State) (v : Word) : (s.setPc v).mem = s.mem := rfl
@[simp] theorem State.setPc_cfg (s : State) (v : Word) : (s.setPc v).cfg = s.cfg := rfl
@[simp] theorem State.setPc_port (s : State) (v : Word) : (s.setPc v).port = s.port := rfl
@[simp] theorem State.setPc_hookCalls (s : State) (v : Word) : (s.setPc v).hookCalls = s.hookCalls := rfl

@[simp] theorem State.setIme_a (s : State) (v : Bool) : (s.setIme v).a = s.a := rfl
@[simp] theorem State.setIme_f (s : State) (v : Bool) : (s.setIme v).f = s.f := rfl
@[simp] theorem State.setIme_b (s : State) (v : Bool) : (s.setIme v).b = s.b := rfl
@[simp] theorem State.setIme_c (s : State) (v : Bool) : (s.setIme v).c = s.c := rfl
@[simp] theorem State.setIme_d (s : State) (v : Bool) : (s.setIme v).d = s.d := rfl
@[simp] theorem State.setIme_e (s : State) (v : Bool) : (s.setIme v).e = s.e := rfl
@[simp] theorem State.setIme_h (s : State) (v : Bool) : (s.setIme v).h = s.h := rfl
@[simp] theorem State.setIme_l (s : State) (v : Bool) : (s.setIme v).l = s.l := rfl
@[simp] theorem State.setIme_sp (s : State) (v : Bool) : (s.setIme v).sp = s.sp := rfl
@[simp] theorem State.setIme_pc (s : State) (v : Bool) : (s.setIme v).pc = s.pc := rfl
@[simp] theorem State.setIme_ime (s : State) (v : Bool) : (s.setIme v).ime = v := rfl
@[simp] theorem State.setIme_cycles (s : State) (v : Bool) : (s.setIme v).cycles = s.cycles := rfl
@[simp] theorem State.setIme_icount (s : State) (v : Bool) : (s.setIme v).icount = s.icount := rfl
@[simp] theorem State.setIme_run (s : State) (v : Bool) : (s.setIme v).run = s.run := rfl
@[simp] theorem State.setIme_mem (s : State) (v : Bool) : (s.setIme v).mem = s.mem := rfl
@[simp] theorem State.setIme_cfg (s : State) (v : Bool) : (s.setIme v).cfg = s.cfg := rfl
@[simp] theorem State.setIme_port (s : State) (v : Bool) : (s.setIme v).port = s.port := rfl
@[simp] theorem State.setIme_hookCalls (s : State) (v : Bool) : (s.setIme v).hookCalls = s.hookCalls := rfl

@[simp] theorem State.setRun_a (s : State) (v : RunState) : (s.setRun v).a = s.a := rfl
@[simp] theorem State.setRun_f (s : State) (v : RunState) : (s.setRun v).f = s.f := rfl
@[simp] theorem State.setRun_b (s : State) (v : RunState) : (s.setRun v).b = s.b := rfl
@[simp] theorem State.setRun_c (s : State) (v : RunState) : (s.setRun v).c = s.c := rfl
@[simp] theorem State.setRun_d (s : State) (v : RunState) : (s.setRun v).d = s.d := rfl
@[simp] theorem State.setRun_e (s : State) (v : RunState) : (s.setRun v).e = s.e := rfl
@[simp] theorem State.setRun_h (s : State) (v : RunState) : (s.setRun v).h = s.h := rfl
@[simp] theorem State.setRun_l (s : State) (v : RunState) : (s.setRun v).l = s.l := rfl
@[simp] theorem State.setRun_sp (s : State) (v : RunState) : (s.setRun v).sp = s.sp := rfl
@[simp] theorem State.setRun_pc (s : State) (v : RunState) : (s.setRun v).pc = s.pc := rfl
@[simp] theorem State.setRun_ime (s : State) (v : RunState) : (s.setRun v).ime = s.ime := rfl
@[simp] theorem State.setRun_cycles (s : State) (v : RunState) : (s.setRun v).cycles = s.cycles := rfl
@[simp] theorem State.setRun_icount (s : State) (v : RunState) : (s.setRun v).icount = s.icount := rfl
@[simp] theorem State.setRun_run (s : State) (v : RunState) : (s.setRun v).run = v := rfl
@[simp] theorem State.setRun_mem (s : State) (v : RunState) : (s.setRun v).mem = s.mem := rfl
@[simp] theorem State.setRun_cfg (s : State) (v : RunState) : (s.setRun v).cfg = s.cfg := rfl
@[simp] theorem State.setRun_port (s : State) (v : RunState) : (s.setRun v).port = s.port := rfl
@[simp] theorem State.setRun_hookCalls (s : State) (v : RunState) : (s.setRun v).hookCalls = s.hookCalls := rfl

@[simp] theorem State.advance_a (s : State) (n : Nat) : (s.advance n).a = s.a := rfl
@[simp] theorem State.advance_f (s : State) (n : Nat) : (s.advance n).f = s.f := rfl
@[simp] theorem State.advance_b (s : State) (n : Nat) : (s.advance n).b = s.b := rfl
@[simp] theorem State.advance_c (s : State) (n : Nat) : (s.advance n).c = s.c := rfl
@[simp] theorem State.advance_d (s : State) (n : Nat) : (s.advance n).d = s.d := rfl
@[simp] theorem State.advance_e (s : State) (n : Nat) : (s.advance n).e = s.e := rfl
@[simp] theorem State.advance_h (s : State) (n : Nat) : (s.advance n).h = s.h := rfl
@[simp] theorem State.advance_l (s : State) (n : Nat) : (s.advance n).l = s.l := rfl
@[simp] theorem State.advance_sp (s : State) (n : Nat) : (s.advance n).sp = s.sp := rfl
@[simp] theorem State.advance_pc (s : State) (n : Nat) : (s.advance n).pc = s.pc + BitVec.ofNat 16 n := rfl
@[simp] theorem State.advance_ime (s : State) (n : Nat) : (s.advance n).ime = s.ime := rfl
@[simp] theorem State.advance_cycles (s : State) (n : Nat) : (s.advance n).cycles = s.cycles := rfl
@[simp] theorem State.advance_icount (s : State) (n : Nat) : (s.advance n).icount = s.icount := rfl
@[simp] theorem State.advance_run (s : State) (n : Nat) : (s.advance n).run = s.run := rfl
@[simp] theorem State.advance_mem (s : State) (n : Nat) : (s.advance n).mem = s.mem := rfl
@[simp] theorem State.advance_cfg (s : State) (n : Nat) : (s.advance n).cfg = s.cfg := rfl
@[simp] theorem State.advance_port (s : State) (n : Nat) : (s.advance n).port = s.port := rfl
@[simp] theorem State.advance_hookCalls (s : State) (n : Nat) : (s.advance n).hookCalls = s.hookCalls := rfl

@[simp] theorem State.retire_a (s : State) (k : Key) (taken : Bool) : (s.retire k taken).a = s.a := rfl
@[simp] theorem State.retire_f (s : State) (k : Key) (taken : Bool) : (s.retire k taken).f = s.f := rfl
@[simp] theorem State.retire_b (s : State) (k : Key) (taken : Bool) : (s.retire k taken).b = s.b := rfl
@[simp] theorem State.retire_c (s : State) (k : Key) (taken : Bool) : (s.retire k taken).c = s.c := rfl
@[simp] theorem State.retire_d (s : State) (k : Key) (taken : Bool) : (s.retire k taken).d = s.d := rfl
@[simp] theorem State.retire_e (s : State) (k : Key) (taken : Bool) : (s.retire k taken).e = s.e := rfl
@[simp] theorem State.retire_h (s : State) (k : Key) (taken : Bool) : (s.retire k taken).h = s.h := rfl
@[simp] theorem State.retire_l (s : State) (k : Key) (taken : Bool) : (s.retire k taken).l = s.l := rfl
@[simp] theorem State.retire_sp (s : State) (k : Key) (taken : Bool) : (s.retire k taken).sp = s.sp := rfl
@[simp] theorem State.retire_pc (s : State) (k : Key) (taken : Bool) : (s.retire k taken).pc = s.pc := rfl
@[simp] theorem State.retire_ime (s : State) (k : Key) (taken : Bool) : (s.retire k taken).ime = s.ime := rfl
@[simp] theorem State.retire_cycles (s : State) (k : Key) (taken : Bool) : (s.retire k taken).cycles = s.cycles + s.cfg.cost k taken := rfl
@[simp] theorem State.retire_icount (s : State) (k : Key) (taken : Bool) : (s.retire k taken).icount = s.icount + 1 := rfl
@[simp] theorem State.retire_run (s : State) (k : Key) (taken : Bool) : (s.retire k taken).run = s.run := rfl
@[simp] theorem State.retire_mem (s : State) (k : Key) (taken : Bool) : (s.retire k taken).mem = s.mem := rfl
@[simp] theorem State.retire_cfg (s : State) (k : Key) (taken : Bool) : (s.retire k taken).cfg = s.cfg := rfl
@[simp] theorem State.retire_port (s : State) (k : Key) (taken : Bool) : (s.retire k taken).port = s.port := rfl
@[simp] theorem State.retire_hookCalls (s : State) (k : Key) (taken : Bool) : (s.retire k taken).hookCalls = s.hookCalls := rfl

@[simp] theorem State.halt_a (s : State) (r : FaultRecord) : (s.halt r).a = s.a := rfl
@[simp] theorem State.halt_f (s : State) (r : FaultRecord) : (s.halt r).f = s.f := rfl
@[simp] theorem State.halt_b (s : State) (r : FaultRecord) : (s.halt r).b = s.b := rfl
@[simp] theorem State.halt_c (s : State) (r : FaultRecord) : (s.halt r).c = s.c := rfl
@[simp] theorem State.halt_d (s : State) (r : FaultRecord) : (s.halt r).d = s.d := rfl
@[simp] theorem State.halt_e (s : State) (r : FaultRecord) : (s.halt r).e = s.e := rfl
@[simp] theorem State.halt_h (s : State) (r : FaultRecord) : (s.halt r).h = s.h := rfl
@[simp] theorem State.halt_l (s : State) (r : FaultRecord) : (s.halt r).l = s.l := rfl
@[simp] theorem State.halt_sp (s : State) (r : FaultRecord) : (s.halt r).sp = s.sp := rfl
@[simp] theorem State.halt_pc (s : State) (r : FaultRecord) : (s.halt r).pc = s.pc := rfl
@[simp] theorem State.halt_ime (s : State) (r : FaultRecord) : (s.halt r).ime = s.ime := rfl
@[simp] theorem State.halt_cycles (s : State) (r : FaultRecord) : (s.halt r).cycles = s.cycles := rfl
@[simp] theorem State.halt_icount (s : State) (r : FaultRecord) : (s.halt r).icount = s.icount := rfl
@[simp] theorem State.halt_run (s : State) (r : FaultRecord) : (s.halt r).run = .halted r := rfl
@[simp] theorem State.halt_mem (s : State) (r : FaultRecord) : (s.halt r).mem = s.mem := rfl
@[simp] theorem State.halt_cfg (s : State) (r : FaultRecord) : (s.halt r).cfg = s.cfg := rfl
@[simp] theorem State.halt_port (s : State) (r : FaultRecord) : (s.halt r).port = s.port := rfl
@[simp] theorem State.halt_hookCalls (s : State) (r : FaultRecord) : (s.halt r).hookCalls = s.hookCalls := rfl

@[simp] theorem State.wake_a (s : State) : (s.wake).a = s.a := rfl
@[simp] theorem State.wake_f (s : State) : (s.wake).f = s.f := rfl
@[simp] theorem State.wake_b (s : State) : (s.wake).b = s.b := rfl
@[simp] theorem State.wake_c (s : State) : (s.wake).c = s.c := rfl
@[simp] theorem State.wake_d (s : State) : (s.wake).d = s.d := rfl
@[simp] theorem State.wake_e (s : State) : (s.wake).e = s.e := rfl
@[simp] theorem State.wake_h (s : State) : (s.wake).h = s.h := rfl
@[simp] theorem State.wake_l (s : State) : (s.wake).l = s.l := rfl
@[simp] theorem State.wake_sp (s : State) : (s.wake).sp = s.sp := rfl
@[simp] theorem State.wake_pc (s : State) : (s.wake).pc = s.pc := rfl
@[simp] theorem State.wake_ime (s : State) : (s.wake).ime = s.ime := rfl
@[simp] theorem State.wake_cycles (s : State) : (s.wake).cycles = s.cycles := rfl
@[simp] theorem State.wake_icount (s : State) : (s.wake).icount = s.icount := rfl
@[simp] theorem State.wake_run (s : State) : (s.wake).run = .running := rfl
@[simp] theorem State.wake_mem (s : State) : (s.wake).mem = s.mem := rfl
@[simp] theorem State.wake_cfg (s : State) : (s.wake).cfg = s.cfg := rfl
@[simp] theorem State.wake_port (s : State) : (s.wake).port = s.port := rfl
@[simp] theorem State.wake_hookCalls (s : State) : (s.wake).hookCalls = s.hookCalls := rfl

@[simp] theorem State.idle_a (s : State) : (s.idle).a = s.a := rfl
@[simp] theorem State.idle_f (s : State) : (s.idle).f = s.f := rfl
@[simp] theorem State.idle_b (s : State) : (s.idle).b = s.b := rfl
@[simp] theorem State.idle_c (s : State) : (s.idle).c = s.c := rfl
@[simp] theorem State.idle_d (s : State) : (s.idle).d = s.d := rfl
@[simp] theorem State.idle_e (s : State) : (s.idle).e = s.e := rfl
@[simp] theorem State.idle_h (s : State) : (s.idle).h = s.h := rfl
@[simp] theorem State.idle_l (s : State) : (s.idle).l = s.l := rfl
@[simp] theorem State.idle_sp (s : State) : (s.idle).sp = s.sp := rfl
@[simp] theorem State.idle_pc (s : State) : (s.idle).pc = s.pc := rfl
@[simp] theorem State.idle_ime (s : State) : (s.idle).ime = s.ime := rfl
@[simp] theorem State.idle_cycles (s : State) : (s.idle).cycles = s.cycles + 4 := rfl
@[simp] theorem State.idle_icount (s : State) : (s.idle).icount = s.icount := rfl
@[simp] theorem State.idle_run (s : State) : (s.idle).run = s.run := rfl
@[simp] theorem State.idle_mem (s : State) : (s.idle).mem = s.mem := rfl
@[simp] theorem State.idle_cfg (s : State) : (s.idle).cfg = s.cfg := rfl
@[simp] theorem State.idle_port (s : State) : (s.idle).port = s.port := rfl
@[simp] theorem State.idle_hookCalls (s : State) : (s.idle).hookCalls = s.hookCalls := rfl

@[simp] theorem State.setByte_a (s : State) (x : Word) (v : Byte) : (s.setByte x v).a = s.a := rfl
@[simp] theorem State.setByte_f (s : State) (x : Word) (v : Byte) : (s.setByte x v).f = s.f := rfl
@[simp] theorem State.setByte_b (s : State) (x : Word) (v : Byte) : (s.setByte x v).b = s.b := rfl
@[simp] theorem State.setByte_c (s : State) (x : Word) (v : Byte) : (s.setByte x v).c = s.c := rfl
@[simp] theorem State.setByte_d (s : State) (x : Word) (v : Byte) : (s.setByte x v).d = s.d := rfl
@[simp] theorem State.setByte_e (s : State) (x : Word) (v : Byte) : (s.setByte x v).e = s.e := rfl
@[simp] theorem State.setByte_h (s : State) (x : Word) (v : Byte) : (s.setByte x v).h = s.h := rfl
@[simp] theorem State.setByte_l (s : State) (x : Word) (v : Byte) : (s.setByte x v).l = s.l := rfl
@[simp] theorem State.setByte_sp (s : State) (x : Word) (v : Byte) : (s.setByte x v).sp = s.sp := rfl
@[simp] theorem State.setByte_pc (s : State) (x : Word) (v : Byte) : (s.setByte x v).pc = s.pc := rfl
@[simp] theorem State.setByte_ime (s : State) (x : Word) (v : Byte) : (s.setByte x v).ime = s.ime := rfl
@[simp] theorem State.setByte_cycles (s : State) (x : Word) (v : Byte) : (s.setByte x v).cycles = s.cycles := rfl
@[simp] theorem State.setByte_icount (s : State) (x : Word) (v : Byte) : (s.setByte x v).icount = s.icount := rfl
@[simp] theorem State.setByte_run (s : State) (x : Word) (v : Byte) : (s.setByte x v).run = s.run := rfl
@[simp] theorem State.setByte_mem (s : State) (x : Word) (v : Byte) : (s.setByte x v).mem = Memory.set s.mem x.toNat v := rfl
@[simp] theorem State.setByte_cfg (s : State) (x : Word) (v : Byte) : (s.setByte x v).cfg = s.cfg := rfl
@[simp] theorem State.setByte_port (s : State) (x : Word) (v : Byte) : (s.setByte x v).port = s.port := rfl
@[simp] theorem State.setByte_hookCalls (s : State) (x : Word) (v : Byte) : (s.setByte x v).hookCalls = s.hookCalls := rfl

@[simp] theorem State.hook_a (s : State) : (s.hook).a = s.a := rfl
@[simp] theorem State.hook_f (s : State) : (s.hook).f = s.f := rfl
@[simp] theorem State.hook_b (s : State) : (s.hook).b = s.b := rfl
@[simp] theorem State.hook_c (s : State) : (s.hook).c = s.c := rfl
@[simp] theorem State.hook_d (s : State) : (s.hook).d = s.d := rfl
@[simp] theorem State.hook_e (s : State) : (s.hook).e = s.e := rfl
@[simp] theorem State.hook_h (s : State) : (s.hook).h = s.h := rfl
@[simp] theorem State.hook_l (s : State) : (s.hook).l = s.l := rfl
@[simp] theorem State.hook_sp (s : State) : (s.hook).sp = s.sp := rfl
@[simp] theorem State.hook_pc (s : State) : (s.hook).pc = s.pc := rfl
@[simp] theorem State.hook_ime (s : State) : (s.hook).ime = s.ime := rfl
@[simp] theorem State.hook_cycles (s : State) : (s.hook).cycles = s.cycles := rfl
@[simp] theorem State.hook_icount (s : State) : (s.hook).icount = s.icount := rfl
@[simp] theorem State.hook_run (s : State) : (s.hook).run = s.run := rfl
@[simp] theorem State.hook_cfg (s : State) : (s.hook).cfg = s.cfg := rfl
@[simp] theorem State.hook_port (s : State) : (s.hook).port = s.port := rfl
@[simp] theorem State.hook_hookCalls (s : State) : (s.hook).hookCalls = s.hookCalls + 1 := rfl

@[simp] theorem State.nextBoundary_a (s : State) : (s.nextBoundary).a = s.a := by unfold State.nextBoundary; split <;> rfl
@[simp] theorem State.nextBoundary_f (s : State) : (s.nextBoundary).f = s.f := by unfold State.nextBoundary; split <;> rfl
@[simp] theorem State.nextBoundary_b (s : State) : (s.nextBoundary).b = s.b := by unfold State.nextBoundary; split <;> rfl
@[simp] theorem State.nextBoundary_c (s : State) : (s.nextBoundary).c = s.c := by unfold State.nextBoundary; split <;> rfl
@[simp] theorem State.nextBoundary_d (s : State) : (s.nextBoundary).d = s.d := by unfold State.nextBoundary; split <;> rfl
@[simp] theorem State.nextBoundary_e (s : State) : (s.nextBoundary).e = s.e := by unfold State.nextBoundary; split <;> rfl
@[simp] theorem State.nextBoundary_h (s : State) : (s.nextBoundary).h = s.h := by unfold State.nextBoundary; split <;> rfl
@[simp] theorem State.nextBoundary_l (s : State) : (s.nextBoundary).l = s.l := by unfold State.nextBoundary; split <;> rfl
@[simp] theorem State.nextBoundary_sp (s : State) : (s.nextBoundary).sp = s.sp := by unfold State.nextBoundary; split <;> rfl
@[simp] theorem State.nextBoundary_pc (s : State) : (s.nextBoundary).pc = s.pc := by unfold State.nextBoundary; split <;> rfl
@[simp] theorem State.nextBoundary_ime (s : State) : (s.nextBoundary).ime = s.ime := by unfold State.nextBoundary; split <;> rfl
@[simp] theorem State.nextBoundary_cycles (s : State) : (s.nextBoundary).cycles = s.cycles := by unfold State.nextBoundary; split <;> rfl
@[simp] theorem State.nextBoundary_icount (s : State) : (s.nextBoundary).icount = s.icount := by unfold State.nextBoundary; split <;> rfl
@[simp] theorem State.nextBoundary_run (s : State) : (s.nextBoundary).run = s.run := by unfold State.nextBoundary; split <;> rfl
@[simp] theorem State.nextBoundary_mem (s : State) : (s.nextBoundary).mem = s.mem := by unfold State.nextBoundary; split <;> rfl
@[simp] theorem State.nextBoundary_cfg (s : State) : (s.nextBoundary).cfg = s.cfg := by unfold State.nextBoundary; split <;> rfl
@[simp] theorem State.nextBoundary_hookCalls (s : State) : (s.nextBoundary).hookCalls = s.hookCalls := by unfold State.nextBoundary; split <;> rfl

/-! The operations of Machine/Flags.lean and Machine/Operands.lean. -/

@[simp] theorem State.withFlags_a (s : State) (z n h c : Option Bool) : (s.withFlags z n h c).a = s.a := rfl
@[simp] theorem State.withFlags_f (s : State) (z n h c : Option Bool) : (s.withFlags z n h c).f = putFlag (putFlag (putFlag (putFlag s.f .z z) .n n) .h h) .c c := rfl
@[simp] theorem State.withFlags_b (s : State) (z n h c : Option Bool) : (s.withFlags z n h c).b = s.b := rfl
@[simp] theorem State.withFlags_c (s : State) (z n h c : Option Bool) : (s.withFlags z n h c).c = s.c := rfl
@[simp] theorem State.withFlags_d (s : State) (z n h c : Option Bool) : (s.withFlags z n h c).d = s.d := rfl
@[simp] theorem State.withFlags_e (s : State) (z n h c : Option Bool) : (s.withFlags z n h c).e = s.e := rfl
@[simp] theorem State.withFlags_h (s : State) (z n h c : Option Bool) : (s.withFlags z n h c).h = s.h := rfl
@[simp] theorem State.withFlags_l (s : State) (z n h c : Option Bool) : (s.withFlags z n h c).l = s.l := rfl
@[simp] theorem State.withFlags_sp (s : State) (z n h c : Option Bool) : (s.withFlags z n h c).sp = s.sp := rfl
@[simp] theorem State.withFlags_pc (s : State) (z n h c : Option Bool) : (s.withFlags z n h c).pc = s.pc := rfl
@[simp] theorem State.withFlags_ime (s : State) (z n h c : Option Bool) : (s.withFlags z n h c).ime = s.ime := rfl
@[simp] theorem State.withFlags_cycles (s : State) (z n h c : Option Bool) : (s.withFlags z n h c).cycles = s.cycles := rfl
@[simp] theorem State.withFlags_icount (s : State) (z n h c : Option Bool) : (s.withFlags z n h c).icount = s.icount := rfl
@[simp] theorem State.withFlags_run (s : State) (z n h c : Option Bool) : (s.withFlags z n h c).run = s.run := rfl
@[simp] theorem State.withFlags_mem (s : State) (z n h c : Option Bool) : (s.withFlags z n h c).mem = s.mem := rfl
@[simp] theorem State.withFlags_cfg (s : State) (z n h c : Option Bool) : (s.withFlags z n h c).cfg = s.cfg := rfl
@[simp] theorem State.withFlags_port (s : State) (z n h c : Option Bool) : (s.withFlags z n h c).port = s.port := rfl
@[simp] theorem State.withFlags_hookCalls (s : State) (z n h c : Option Bool) : (s.withFlags z n h c).hookCalls = s.hookCalls := rfl

@[simp] theorem State.setReg_f (s : State) (r : Reg8) (v : Byte) : (s.setReg r v).f = s.f := by cases r <;> rfl
@[simp] theorem State.setReg_sp (s : State) (r : Reg8) (v : Byte) : (s.setReg r v).sp = s.sp := by cases r <;> rfl
@[simp] theorem State.setReg_pc (s : State) (r : Reg8) (v : Byte) : (s.setReg r v).pc = s.pc := by cases r <;> rfl
@[simp] theorem State.setReg_ime (s : State) (r : Reg8) (v : Byte) : (s.setReg r v).ime = s.ime := by cases r <;> rfl
@[simp] theorem State.setReg_cycles (s : State) (r : Reg8) (v : Byte) : (s.setReg r v).cycles = s.cycles := by cases r <;> rfl
@[simp] theorem State.setReg_icount (s : State) (r : Reg8) (v : Byte) : (s.setReg r v).icount = s.icount := by cases r <;> rfl
@[simp] theorem State.setReg_run (s : State) (r : Reg8) (v : Byte) : (s.setReg r v).run = s.run := by cases r <;> rfl
@[simp] theorem State.setReg_mem (s : State) (r : Reg8) (v : Byte) : (s.setReg r v).mem = s.mem := by cases r <;> rfl
@[simp] theorem State.setReg_cfg (s : State) (r : Reg8) (v : Byte) : (s.setReg r v).cfg = s.cfg := by cases r <;> rfl
@[simp] theorem State.setReg_port (s : State) (r : Reg8) (v : Byte) : (s.setReg r v).port = s.port := by cases r <;> rfl
@[simp] theorem State.setReg_hookCalls (s : State) (r : Reg8) (v : Byte) : (s.setReg r v).hookCalls = s.hookCalls := by cases r <;> rfl

@[simp] theorem State.setBc_a (s : State) (v : Word) : (s.setBc v).a = s.a := rfl
@[simp] theorem State.setBc_f (s : State) (v : Word) : (s.setBc v).f = s.f := rfl
@[simp] theorem State.setBc_b (s : State) (v : Word) : (s.setBc v).b = hiByte v := rfl
@[simp] theorem State.setBc_c (s : State) (v : Word) : (s.setBc v).c = loByte v := rfl
@[simp] theorem State.setBc_d (s : State) (v : Word) : (s.setBc v).d = s.d := rfl
@[simp] theorem State.setBc_e (s : State) (v : Word) : (s.setBc v).e = s.e := rfl
@[simp] theorem State.setBc_h (s : State) (v : Word) : (s.setBc v).h = s.h := rfl
@[simp] theorem State.setBc_l (s : State) (v : Word) : (s.setBc v).l = s.l := rfl
@[simp] theorem State.setBc_sp (s : State) (v : Word) : (s.setBc v).sp = s.sp := rfl
@[simp] theorem State.setBc_pc (s : State) (v : Word) : (s.setBc v).pc = s.pc := rfl
@[simp] theorem State.setBc_ime (s : State) (v : Word) : (s.setBc v).ime = s.ime := rfl
@[simp] theorem State.setBc_cycles (s : State) (v : Word) : (s.setBc v).cycles = s.cycles := rfl
@[simp] theorem State.setBc_icount (s : State) (v : Word) : (s.setBc v).icount = s.icount := rfl
@[simp] theorem State.setBc_run (s : State) (v : Word) : (s.setBc v).run = s.run := rfl
@[simp] theorem State.setBc_mem (s : State) (v : Word) : (s.setBc v).mem = s.mem := rfl
@[simp] theorem State.setBc_cfg (s : State) (v : Word) : (s.setBc v).cfg = s.cfg := rfl
@[simp] theorem State.setBc_port (s : State) (v : Word) : (s.setBc v).port = s.port := rfl
@[simp] theorem State.setBc_hookCalls (s : State) (v : Word) : (s.setBc v).hookCalls = s.hookCalls := rfl

@[simp] theorem State.setDe_a (s : State) (v : Word) : (s.setDe v).a = s.a := rfl
@[simp] theorem State.setDe_f (s : State) (v : Word) : (s.setDe v).f = s.f := rfl
@[simp] theorem State.setDe_b (s : State) (v : Word) : (s.setDe v).b = s.b := rfl
@[simp] theorem State.setDe_c (s : State) (v : Word) : (s.setDe v).c = s.c := rfl
@[simp] theorem State.setDe_d (s : State) (v : Word) : (s.setDe v).d = hiByte v := rfl
@[simp] theorem State.setDe_e (s : State) (v : Word) : (s.setDe v).e = loByte v := rfl
@[simp] theorem State.setDe_h (s : State) (v : Word) : (s.setDe v).h = s.h := rfl
@[simp] theorem State.setDe_l (s : State) (v : Word) : (s.setDe v).l = s.l := rfl
@[simp] theorem State.setDe_sp (s : State) (v : Word) : (s.setDe v).sp = s.sp := rfl
@[simp] theorem State.setDe_pc (s : State) (v : Word) : (s.setDe v).pc = s.pc := rfl
@[simp] theorem State.setDe_ime (s : State) (v : Word) : (s.setDe v).ime = s.ime := rfl
@[simp] theorem State.setDe_cycles (s : State) (v : Word) : (s.setDe v).cycles = s.cycles := rfl
@[simp] theorem State.setDe_icount (s : State) (v : Word) : (s.setDe v).icount = s.icount := rfl
@[simp] theorem State.setDe_run (s : State) (v : Word) : (s.setDe v).run = s.run := rfl
@[simp] theorem State.setDe_mem (s : State) (v : Word) : (s.setDe v).mem = s.mem := rfl
@[simp] theorem State.setDe_cfg (s : State) (v : Word) : (s.setDe v).cfg = s.cfg := rfl
@[simp] theorem State.setDe_port (s : State) (v : Word) : (s.setDe v).port = s.port := rfl
@[simp] theorem State.setDe_hookCalls (s : State) (v : Word) : (s.setDe v).hookCalls = s.hookCalls := rfl

@[simp] theorem State.setHl_a (s : State) (v : Word) : (s.setHl v).a = s.a := rfl
@[simp] theorem State.setHl_f (s : State) (v : Word) : (s.setHl v).f = s.f := rfl
@[simp] theorem State.setHl_b (s : State) (v : Word) : (s.setHl v).b = s.b := rfl
@[simp] theorem State.setHl_c (s : State) (v : Word) : (s.setHl v).c = s.c := rfl
@[simp] theorem State.setHl_d (s : State) (v : Word) : (s.setHl v).d = s.d := rfl
@[simp] theorem State.setHl_e (s : State) (v : Word) : (s.setHl v).e = s.e := rfl
@[simp] theorem State.setHl_h (s : State) (v : Word) : (s.setHl v).h = hiByte v := rfl
@[simp] theorem State.setHl_l (s : State) (v : Word) : (s.setHl v).l = loByte v := rfl
@[simp] theorem State.setHl_sp (s : State) (v : Word) : (s.setHl v).sp = s.sp := rfl
@[simp] theorem State.setHl_pc (s : State) (v : Word) : (s.setHl v).pc = s.pc := rfl
@[simp] theorem State.setHl_ime (s : State) (v : Word) : (s.setHl v).ime = s.ime := rfl
@[simp] theorem State.setHl_cycles (s : State) (v : Word) : (s.setHl v).cycles = s.cycles := rfl
@[simp] theorem State.setHl_icount (s : State) (v : Word) : (s.setHl v).icount = s.icount := rfl
@[simp] theorem State.setHl_run (s : State) (v : Word) : (s.setHl v).run = s.run := rfl
@[simp] theorem State.setHl_mem (s : State) (v : Word) : (s.setHl v).mem = s.mem := rfl
@[simp] theorem State.setHl_cfg (s : State) (v : Word) : (s.setHl v).cfg = s.cfg := rfl
@[simp] theorem State.setHl_port (s : State) (v : Word) : (s.setHl v).port = s.port := rfl
@[simp] theorem State.setHl_hookCalls (s : State) (v : Word) : (s.setHl v).hookCalls = s.hookCalls := rfl

@[simp] theorem State.setAf_a (s : State) (v : Word) : (s.setAf v).a = hiByte v := rfl
@[simp] theorem State.setAf_f (s : State) (v : Word) : (s.setAf v).f = maskF (loByte v) := rfl
@[simp] theorem State.setAf_b (s : State) (v : Word) : (s.setAf v).b = s.b := rfl
@[simp] theorem State.setAf_c (s : State) (v : Word) : (s.setAf v).c = s.c := rfl
@[simp] theorem State.setAf_d (s : State) (v : Word) : (s.setAf v).d = s.d := rfl
@[simp] theorem State.setAf_e (s : State) (v : Word) : (s.setAf v).e = s.e := rfl
@[simp] theorem State.setAf_h (s : State) (v : Word) : (s.setAf v).h = s.h := rfl
@[simp] theorem State.setAf_l (s : State) (v : Word) : (s.setAf v).l = s.l := rfl
@[simp] theorem State.setAf_sp (s : State) (v : Word) : (s.setAf v).sp = s.sp := rfl
@[simp] theorem State.setAf_pc (s : State) (v : Word) : (s.setAf v).pc = s.pc := rfl
@[simp] theorem State.setAf_ime (s : State) (v : Word) : (s.setAf v).ime = s.ime := rfl
@[simp] theorem State.setAf_cycles (s : State) (v : Word) : (s.setAf v).cycles = s.cycles := rfl
@[simp] theorem State.setAf_icount (s : State) (v : Word) : (s.setAf v).icount = s.icount := rfl
@[simp] theorem State.setAf_run (s : State) (v : Word) : (s.setAf v).run = s.run := rfl
@[simp] theorem State.setAf_mem (s : State) (v : Word) : (s.setAf v).mem = s.mem := rfl
@[simp] theorem State.setAf_cfg (s : State) (v : Word) : (s.setAf v).cfg = s.cfg := rfl
@[simp] theorem State.setAf_port (s : State) (v : Word) : (s.setAf v).port = s.port := rfl
@[simp] theorem State.setAf_hookCalls (s : State) (v : Word) : (s.setAf v).hookCalls = s.hookCalls := rfl

@[simp] theorem State.setPairSp_a (s : State) (p : PairSp) (v : Word) : (s.setPairSp p v).a = s.a := by cases p <;> rfl
@[simp] theorem State.setPairSp_f (s : State) (p : PairSp) (v : Word) : (s.setPairSp p v).f = s.f := by cases p <;> rfl
@[simp] theorem State.setPairSp_pc (s : State) (p : PairSp) (v : Word) : (s.setPairSp p v).pc = s.pc := by cases p <;> rfl
@[simp] theorem State.setPairSp_ime (s : State) (p : PairSp) (v : Word) : (s.setPairSp p v).ime = s.ime := by cases p <;> rfl
@[simp] theorem State.setPairSp_cycles (s : State) (p : PairSp) (v : Word) : (s.setPairSp p v).cycles = s.cycles := by cases p <;> rfl
@[simp] theorem State.setPairSp_icount (s : State) (p : PairSp) (v : Word) : (s.setPairSp p v).icount = s.icount := by cases p <;> rfl
@[simp] theorem State.setPairSp_run (s : State) (p : PairSp) (v : Word) : (s.setPairSp p v).run = s.run := by cases p <;> rfl
@[simp] theorem State.setPairSp_mem (s : State) (p : PairSp) (v : Word) : (s.setPairSp p v).mem = s.mem := by cases p <;> rfl
@[simp] theorem State.setPairSp_cfg (s : State) (p : PairSp) (v : Word) : (s.setPairSp p v).cfg = s.cfg := by cases p <;> rfl
@[simp] theorem State.setPairSp_port (s : State) (p : PairSp) (v : Word) : (s.setPairSp p v).port = s.port := by cases p <;> rfl
@[simp] theorem State.setPairSp_hookCalls (s : State) (p : PairSp) (v : Word) : (s.setPairSp p v).hookCalls = s.hookCalls := by cases p <;> rfl

@[simp] theorem State.setPairAf_sp (s : State) (p : PairAf) (v : Word) : (s.setPairAf p v).sp = s.sp := by cases p <;> rfl
@[simp] theorem State.setPairAf_pc (s : State) (p : PairAf) (v : Word) : (s.setPairAf p v).pc = s.pc := by cases p <;> rfl
@[simp] theorem State.setPairAf_ime (s : State) (p : PairAf) (v : Word) : (s.setPairAf p v).ime = s.ime := by cases p <;> rfl
@[simp] theorem State.setPairAf_cycles (s : State) (p : PairAf) (v : Word) : (s.setPairAf p v).cycles = s.cycles := by cases p <;> rfl
@[simp] theorem State.setPairAf_icount (s : State) (p : PairAf) (v : Word) : (s.setPairAf p v).icount = s.icount := by cases p <;> rfl
@[simp] theorem State.setPairAf_run (s : State) (p : PairAf) (v : Word) : (s.setPairAf p v).run = s.run := by cases p <;> rfl
@[simp] theorem State.setPairAf_mem (s : State) (p : PairAf) (v : Word) : (s.setPairAf p v).mem = s.mem := by cases p <;> rfl
@[simp] theorem State.setPairAf_cfg (s : State) (p : PairAf) (v : Word) : (s.setPairAf p v).cfg = s.cfg := by cases p <;> rfl
@[simp] theorem State.setPairAf_port (s : State) (p : PairAf) (v : Word) : (s.setPairAf p v).port = s.port := by cases p <;> rfl
@[simp] theorem State.setPairAf_hookCalls (s : State) (p : PairAf) (v : Word) : (s.setPairAf p v).hookCalls = s.hookCalls := by cases p <;> rfl

@[simp] theorem State.modify_a (s : State) (m : Mode) : (s.modify m).a = s.a := by cases m <;> rfl
@[simp] theorem State.modify_f (s : State) (m : Mode) : (s.modify m).f = s.f := by cases m <;> rfl
@[simp] theorem State.modify_b (s : State) (m : Mode) : (s.modify m).b = s.b := by cases m <;> rfl
@[simp] theorem State.modify_c (s : State) (m : Mode) : (s.modify m).c = s.c := by cases m <;> rfl
@[simp] theorem State.modify_d (s : State) (m : Mode) : (s.modify m).d = s.d := by cases m <;> rfl
@[simp] theorem State.modify_e (s : State) (m : Mode) : (s.modify m).e = s.e := by cases m <;> rfl
@[simp] theorem State.modify_sp (s : State) (m : Mode) : (s.modify m).sp = s.sp := by cases m <;> rfl
@[simp] theorem State.modify_pc (s : State) (m : Mode) : (s.modify m).pc = s.pc := by cases m <;> rfl
@[simp] theorem State.modify_ime (s : State) (m : Mode) : (s.modify m).ime = s.ime := by cases m <;> rfl
@[simp] theorem State.modify_cycles (s : State) (m : Mode) : (s.modify m).cycles = s.cycles := by cases m <;> rfl
@[simp] theorem State.modify_icount (s : State) (m : Mode) : (s.modify m).icount = s.icount := by cases m <;> rfl
@[simp] theorem State.modify_run (s : State) (m : Mode) : (s.modify m).run = s.run := by cases m <;> rfl
@[simp] theorem State.modify_mem (s : State) (m : Mode) : (s.modify m).mem = s.mem := by cases m <;> rfl
@[simp] theorem State.modify_cfg (s : State) (m : Mode) : (s.modify m).cfg = s.cfg := by cases m <;> rfl
@[simp] theorem State.modify_port (s : State) (m : Mode) : (s.modify m).port = s.port := by cases m <;> rfl
@[simp] theorem State.modify_hookCalls (s : State) (m : Mode) : (s.modify m).hookCalls = s.hookCalls := by cases m <;> rfl

/-- The register file is seven separate cells (spec/10_state.md R30). -/
@[simp] theorem State.reg_setReg (s : State) (r q : Reg8) (v : Byte) :
    (s.setReg r v).reg q = if q = r then v else s.reg q := by
  cases r <;> cases q <;> rfl

/-- Writing a register back leaves the state as it was. -/
@[simp] theorem State.setReg_reg (s : State) (r : Reg8) : s.setReg r (s.reg r) = s := by
  cases r <;> rfl

/-- A state made of the fields of a state is that state. -/
theorem State.isHalted_of_run {s t : State} (h : t.run = s.run) : t.isHalted = s.isHalted := by
  simp [State.isHalted, h]

/-- Halted shows in the run state. -/
theorem State.isHalted_iff (s : State) : s.isHalted = true ↔ ∃ r, s.run = .halted r := by
  unfold State.isHalted
  cases s.run <;> simp

@[simp] theorem State.isHalted_halt (s : State) (r : FaultRecord) : (s.halt r).isHalted = true := rfl

end Sys2Proof.Machine
end

