-- ==== Sys2Proof/Laws/Flags.lean ====
section
/-! SUPPORT. The flag register: one flag changes at a time, the low nibble never (spec/10_state.md R34 to R36). -/

namespace Sys2Proof.Machine

/-- What a flag reads after a flag is set (R35). -/
@[simp] theorem getFlag_setFlag (f : Byte) (x y : Flag) (v : Bool) :
    getFlag (setFlag f x v) y = if y = x then v else getFlag f y := by
  cases x <;> cases y <;> cases v <;>
    simp [getFlag, setFlag, Flag.bit]

/-- What a flag reads after a flag is given a value or left alone. -/
@[simp] theorem getFlag_putFlag (f : Byte) (x y : Flag) (v : Option Bool) :
    getFlag (putFlag f x v) y = if y = x then v.getD (getFlag f y) else getFlag f y := by
  cases v with
  | none => simp [putFlag]
  | some v => simp [putFlag]

/-- Setting a flag leaves the low nibble alone. -/
@[simp] theorem lowNibble_setFlag (f : Byte) (x : Flag) (v : Bool) : setFlag f x v &&& 0x0F#8 = f &&& 0x0F#8 := by
  cases x <;> cases v <;> revert f <;> decide

/-- Giving a flag a value or leaving it alone leaves the low nibble alone. -/
@[simp] theorem lowNibble_putFlag (f : Byte) (x : Flag) (v : Option Bool) :
    putFlag f x v &&& 0x0F#8 = f &&& 0x0F#8 := by
  cases v with
  | none => rfl
  | some v => exact lowNibble_setFlag f x v

/-- A masked byte has a zero low nibble (R36). -/
@[simp] theorem lowNibble_maskF (v : Byte) : maskF v &&& 0x0F#8 = 0#8 := by
  revert v; decide

/-- The mask changes nothing where the low nibble is already zero. -/
theorem maskF_of_lowNibble {v : Byte} (h : v &&& 0x0F#8 = 0#8) : maskF v = v := by
  revert v; decide

/-- F is its four flags and its low nibble. -/
theorem flags_ext {f g : Byte} (hz : getFlag f .z = getFlag g .z) (hn : getFlag f .n = getFlag g .n)
    (hh : getFlag f .h = getFlag g .h) (hc : getFlag f .c = getFlag g .c) (hl : f &&& 0x0F#8 = g &&& 0x0F#8) :
    f = g := by
  apply BitVec.eq_of_getLsbD_eq
  intro i hi
  have low (j : Nat) (hj : j < 4) : f.getLsbD j = g.getLsbD j := by
    have := congrArg (fun v : Byte => v.getLsbD j) hl
    match j, hj with
    | 0, _ | 1, _ | 2, _ | 3, _ => simpa using this
  match i, hi with
  | 0, _ | 1, _ | 2, _ | 3, _ => exact low _ (by decide)
  | 4, _ => exact hc
  | 5, _ => exact hh
  | 6, _ => exact hn
  | 7, _ => exact hz

@[simp] theorem State.flag_withFlags_z (s : State) (z n h c : Option Bool) :
    (s.withFlags z n h c).flag .z = z.getD (s.flag .z) := by
  simp [State.flag]

@[simp] theorem State.flag_withFlags_n (s : State) (z n h c : Option Bool) :
    (s.withFlags z n h c).flag .n = n.getD (s.flag .n) := by
  simp [State.flag]

@[simp] theorem State.flag_withFlags_h (s : State) (z n h c : Option Bool) :
    (s.withFlags z n h c).flag .h = h.getD (s.flag .h) := by
  simp [State.flag]

@[simp] theorem State.flag_withFlags_c (s : State) (z n h c : Option Bool) :
    (s.withFlags z n h c).flag .c = c.getD (s.flag .c) := by
  simp [State.flag]

/-- Writing flags leaves F's low nibble alone. -/
@[simp] theorem State.lowNibble_withFlags (s : State) (z n h c : Option Bool) :
    (s.withFlags z n h c).f &&& 0x0F#8 = s.f &&& 0x0F#8 := by
  simp [State.withFlags]

/-- A flag depends on F alone. -/
theorem State.flag_of_f {s t : State} (h : t.f = s.f) (x : Flag) : t.flag x = s.flag x := by
  simp only [State.flag, h]

/-- A condition depends on F alone. -/
theorem State.cond_of_f {s t : State} (h : t.f = s.f) (cc : Cond) : t.cond cc = s.cond cc := by
  cases cc <;> simp only [State.cond, State.flag_of_f h]

end Sys2Proof.Machine
end

