-- ==== Sys2Proof/Laws/Memory.lean ====
section
/-! SUPPORT. Memory as data: what a read after a write gives, and that every operation keeps the canonical form. -/

namespace Sys2Proof.Machine

/-- A read after a write: the byte written at its address, and what was there before at every other. -/
theorem Memory.lookup_set (m : Memory) (x y : Nat) (v : Byte) :
    Memory.lookup (Memory.set m x v) y = if y = x then some v else Memory.lookup m y := by
  induction m with
  | nil => simp only [Memory.set, Memory.lookup]
  | cons cell m ih =>
    obtain ⟨z, w⟩ := cell
    simp only [Memory.set]
    split
    · simp only [Memory.lookup]
    · split
      · next h => subst h; simp only [Memory.lookup]; split <;> rfl
      · simp only [Memory.lookup, ih]
        by_cases hz : y = z
        · subst hz
          have : y ≠ x := fun h => by omega
          simp [this]
        · simp [hz]

/-- Rising from a bound, rising from every lower one. -/
theorem Memory.risingFrom_mono {m : Memory} {low low' : Nat} (hl : low' ≤ low) (h : Memory.risingFrom low m = true) :
    Memory.risingFrom low' m = true := by
  cases m with
  | nil => rfl
  | cons cell m =>
    simp only [Memory.risingFrom, Bool.and_eq_true, decide_eq_true_eq] at h ⊢
    exact ⟨⟨by omega, h.1.2⟩, h.2⟩

/-- A write at an address of the space keeps the addresses rising. -/
theorem Memory.risingFrom_set {m : Memory} {low x : Nat} {v : Byte} (h : Memory.risingFrom low m = true)
    (hl : low ≤ x) (hx : x < 0x10000) : Memory.risingFrom low (Memory.set m x v) = true := by
  induction m generalizing low with
  | nil => simp [Memory.set, Memory.risingFrom, hl, hx]
  | cons cell m ih =>
    obtain ⟨z, w⟩ := cell
    simp only [Memory.risingFrom, Bool.and_eq_true, decide_eq_true_eq] at h
    simp only [Memory.set]
    split
    · simp only [Memory.risingFrom, Bool.and_eq_true, decide_eq_true_eq]
      exact ⟨⟨hl, hx⟩, ⟨by omega, h.1.2⟩, h.2⟩
    · split
      · next he =>
        subst he
        simp only [Memory.risingFrom, Bool.and_eq_true, decide_eq_true_eq]
        exact ⟨⟨hl, hx⟩, h.2⟩
      · simp only [Memory.risingFrom, Bool.and_eq_true, decide_eq_true_eq]
        exact ⟨h.1, ih h.2 (by omega)⟩

/-- A write keeps the canonical form. -/
theorem Memory.wf_set {m : Memory} {x : Nat} {v : Byte} (h : Memory.wf m = true) (hx : x < 0x10000) :
    Memory.wf (Memory.set m x v) = true :=
  Memory.risingFrom_set h (Nat.zero_le _) hx

/-- What a write can list: its own cell and the cells listed before. -/
theorem Memory.mem_set {m : Memory} {x : Nat} {v : Byte} {cell : Host.Cell} (h : cell ∈ Memory.set m x v) :
    cell = (x, v) ∨ cell ∈ m := by
  induction m with
  | nil => simpa [Memory.set] using h
  | cons c m ih =>
    obtain ⟨z, w⟩ := c
    simp only [Memory.set] at h
    split at h
    · simpa using h
    · split at h
      · rcases List.mem_cons.mp h with h | h
        · exact .inl h
        · exact .inr (List.mem_cons_of_mem _ h)
      · rcases List.mem_cons.mp h with h | h
        · exact .inr (h ▸ List.mem_cons_self)
        · rcases ih h with h | h
          · exact .inl h
          · exact .inr (List.mem_cons_of_mem _ h)

/-- The memory of the state after construction has the canonical form. -/
theorem Memory.wf_reset : Memory.wf State.reset.mem = true := rfl

/-- A read of one byte after a store. -/
@[simp] theorem State.byteAt_setByte (s : State) (x y : Word) (v : Byte) :
    (s.setByte x v).byteAt y = if y = x then v else s.byteAt y := by
  unfold State.byteAt
  rw [State.setByte_mem, Memory.lookup_set]
  by_cases h : y = x
  · simp [h]
  · have : y.toNat ≠ x.toNat := fun e => h (BitVec.eq_of_toNat_eq e)
    simp [h, this]

/-- The byte at an address depends on memory alone. -/
theorem State.byteAt_of_mem {s t : State} (h : t.mem = s.mem) (x : Word) : t.byteAt x = s.byteAt x := by
  simp only [State.byteAt, h]

/-- Whether an address exists depends on MEM_SIZE alone. -/
theorem State.inRange_of_cfg {s t : State} (h : t.cfg = s.cfg) (x : Word) : t.inRange x = s.inRange x := by
  simp only [State.inRange, h]

/-- With the default MEM_SIZE every address exists (spec/20_memory.md R71). -/
theorem State.inRange_of_full {s : State} (h : s.cfg.memSize = 0x10000) (x : Word) : s.inRange x = true := by
  simp only [State.inRange, h, decide_eq_true_eq]
  exact x.isLt

/-- A store keeps memory canonical. -/
theorem State.wf_setByte {s : State} (h : Memory.wf s.mem = true) (x : Word) (v : Byte) :
    Memory.wf (s.setByte x v).mem = true :=
  Memory.wf_set h x.isLt

/-- The hook keeps memory canonical, whatever it draws. -/
theorem Memory.wf_draws {m : Memory} (h : Memory.wf m = true) (draw : Nat → Byte) (l : List Word) :
    Memory.wf (l.foldl (fun m x => Memory.set m x.toNat (draw x.toNat)) m) = true := by
  induction l generalizing m with
  | nil => exact h
  | cons x l ih => exact ih (Memory.wf_set h x.isLt)

/-- What the hook's draws can list: cells listed before, and cells at the addresses drawn for. -/
theorem Memory.mem_draws {m : Memory} {draw : Nat → Byte} {l : List Word} {cell : Host.Cell}
    (h : cell ∈ l.foldl (fun m x => Memory.set m x.toNat (draw x.toNat)) m) :
    cell ∈ m ∨ ∃ x ∈ l, cell.1 = x.toNat := by
  induction l generalizing m with
  | nil => exact .inl h
  | cons x l ih =>
    rcases ih h with h | ⟨y, hy, he⟩
    · rcases Memory.mem_set h with h | h
      · exact .inr ⟨x, List.mem_cons_self, by rw [h]⟩
      · exact .inl h
    · exact .inr ⟨y, List.mem_cons_of_mem _ hy, he⟩

/-- The hook's draws leave every byte at another address alone. -/
theorem Memory.lookup_draws {m : Memory} {draw : Nat → Byte} {l : List Word} {y : Nat}
    (h : ∀ x ∈ l, x.toNat ≠ y) :
    Memory.lookup (l.foldl (fun m x => Memory.set m x.toNat (draw x.toNat)) m) y = Memory.lookup m y := by
  induction l generalizing m with
  | nil => rfl
  | cons x l ih =>
    rw [List.foldl_cons, ih (fun z hz => h z (List.mem_cons_of_mem _ hz)), Memory.lookup_set, if_neg]
    exact fun e => h x List.mem_cons_self e.symm

/-- What a byte of the store reads as after the hook's draws: the draw where one was made, the byte before elsewhere. -/
theorem Memory.lookup_draws_of_mem {m : Memory} {draw : Nat → Byte} {l : List Word} {x : Word} (h : x ∈ l) :
    Memory.lookup (l.foldl (fun m x => Memory.set m x.toNat (draw x.toNat)) m) x.toNat = some (draw x.toNat) := by
  induction l generalizing m with
  | nil => cases h
  | cons y l ih =>
    by_cases hl : x ∈ l
    · exact ih hl
    · have hn : ∀ z ∈ l, z.toNat ≠ x.toNat := fun z hz e => hl (BitVec.eq_of_toNat_eq e ▸ hz)
      rw [List.foldl_cons, Memory.lookup_draws hn, Memory.lookup_set]
      rcases List.mem_cons.mp h with rfl | h
      · rw [if_pos rfl]
      · exact absurd h hl

end Sys2Proof.Machine
end

