-- ==== Sys2Proof/Laws/Port.lean ====
section
/-! SUPPORT. The memory port and the stack: when each access succeeds and what it then gives. -/

namespace Sys2Proof.Machine

theorem State.read8_ok {s : State} {x : Word} (h : s.inRange x = true) : s.read8 x = .ok (s.byteAt x) := by
  simp [State.read8, h]

theorem State.read8_error {s : State} {x : Word} (h : s.inRange x = false) : s.read8 x = .error x := by
  simp [State.read8, h]

theorem State.write8_ok {s : State} {x : Word} (h : s.inRange x = true) (v : Byte) :
    s.write8 x v = .ok (s.setByte x v) := by
  simp [State.write8, h]

theorem State.write8_error {s : State} {x : Word} (h : s.inRange x = false) (v : Byte) : s.write8 x v = .error x := by
  simp [State.write8, h]

/-- All a byte read can answer. -/
theorem State.read8_cases (s : State) (x : Word) :
    s.inRange x = true ∧ s.read8 x = .ok (s.byteAt x) ∨ s.inRange x = false ∧ s.read8 x = .error x := by
  cases h : s.inRange x with
  | true => exact .inl ⟨rfl, State.read8_ok h⟩
  | false => exact .inr ⟨rfl, State.read8_error h⟩

/-- All a byte write can answer. -/
theorem State.write8_cases (s : State) (x : Word) (v : Byte) :
    s.inRange x = true ∧ s.write8 x v = .ok (s.setByte x v) ∨ s.inRange x = false ∧ s.write8 x v = .error x := by
  cases h : s.inRange x with
  | true => exact .inl ⟨rfl, State.write8_ok h v⟩
  | false => exact .inr ⟨rfl, State.write8_error h v⟩

@[simp] theorem State.inRange_setByte (s : State) (x y : Word) (v : Byte) :
    (s.setByte x v).inRange y = s.inRange y := rfl

@[simp] theorem State.inRange_advance (s : State) (n : Nat) (y : Word) : (s.advance n).inRange y = s.inRange y := rfl

@[simp] theorem State.inRange_setSp (s : State) (v : Word) (y : Word) : (s.setSp v).inRange y = s.inRange y := rfl

@[simp] theorem State.byteAt_setSp (s : State) (v : Word) (y : Word) : (s.setSp v).byteAt y = s.byteAt y := rfl

@[simp] theorem State.inRange_setPc (s : State) (v : Word) (y : Word) : (s.setPc v).inRange y = s.inRange y := rfl

@[simp] theorem State.byteAt_setPc (s : State) (v : Word) (y : Word) : (s.setPc v).byteAt y = s.byteAt y := rfl

@[simp] theorem State.inRange_setIme (s : State) (v : Bool) (y : Word) : (s.setIme v).inRange y = s.inRange y := rfl

@[simp] theorem State.byteAt_setIme (s : State) (v : Bool) (y : Word) : (s.setIme v).byteAt y = s.byteAt y := rfl

@[simp] theorem State.inRange_setRun (s : State) (v : RunState) (y : Word) : (s.setRun v).inRange y = s.inRange y := rfl

@[simp] theorem State.byteAt_setRun (s : State) (v : RunState) (y : Word) : (s.setRun v).byteAt y = s.byteAt y := rfl

@[simp] theorem State.byteAt_advance (s : State) (n : Nat) (y : Word) : (s.advance n).byteAt y = s.byteAt y := rfl

@[simp] theorem State.byteAt_retire (s : State) (k : Key) (taken : Bool) (y : Word) :
    (s.retire k taken).byteAt y = s.byteAt y := rfl

@[simp] theorem State.byteAt_withFlags (s : State) (z n h c : Option Bool) (y : Word) :
    (s.withFlags z n h c).byteAt y = s.byteAt y := rfl

@[simp] theorem State.byteAt_setReg (s : State) (r : Reg8) (v : Byte) (y : Word) :
    (s.setReg r v).byteAt y = s.byteAt y := by
  cases r <;> rfl

@[simp] theorem State.inRange_setReg (s : State) (r : Reg8) (v : Byte) (y : Word) :
    (s.setReg r v).inRange y = s.inRange y := by
  cases r <;> rfl

theorem State.read16_ok {s : State} {x : Word} (h0 : s.inRange x = true) (h1 : s.inRange (x + 1) = true) :
    s.read16 x = .ok (wordOf (s.byteAt (x + 1)) (s.byteAt x)) := by
  simp only [State.read16, State.read8_ok h0, State.read8_ok h1, bind, Except.bind, pure, Except.pure]

theorem State.write16_ok {s : State} {x : Word} (h0 : s.inRange x = true) (h1 : s.inRange (x + 1) = true) (v : Word) :
    s.write16 x v = .ok ((s.setByte x (loByte v)).setByte (x + 1) (hiByte v)) := by
  simp only [State.write16, State.write8_ok h0, bind, Except.bind]
  exact State.write8_ok (s := s.setByte x (loByte v)) h1 _

/-- All a 16-bit write can answer: both bytes stored, or the first of its two addresses that does not exist (R72). -/
theorem State.write16_cases (s : State) (x v : Word) :
    s.inRange x = true ∧ s.inRange (x + 1) = true
        ∧ s.write16 x v = .ok ((s.setByte x (loByte v)).setByte (x + 1) (hiByte v))
    ∨ s.inRange x = false ∧ s.write16 x v = .error x
    ∨ s.inRange x = true ∧ s.inRange (x + 1) = false ∧ s.write16 x v = .error (x + 1) := by
  rcases State.write8_cases s x (loByte v) with ⟨h0, e0⟩ | ⟨h0, e0⟩
  · rcases State.write8_cases (s.setByte x (loByte v)) (x + 1) (hiByte v) with ⟨h1, _⟩ | ⟨h1, e1⟩
    · exact .inl ⟨h0, h1, State.write16_ok h0 h1 v⟩
    · refine .inr (.inr ⟨h0, h1, ?_⟩)
      simp only [State.write16, e0, bind, Except.bind]
      exact e1
  · refine .inr (.inl ⟨h0, ?_⟩)
    simp only [State.write16, e0, bind, Except.bind]

/-- The state after a push that succeeds (spec/41_stack_calls.md R162). -/
def State.pushed (s : State) (v : Word) : State :=
  ((s.setSp (s.sp - 2)).setByte (s.sp - 1) (hiByte v)).setByte (s.sp - 2) (loByte v)

theorem State.sp_sub_two (x : Word) : x - 1 - 1 = x - 2 := by
  rw [BitVec.sub_sub]; rfl

/-- All a push can answer: the pushed state, or the address of the first byte that does not exist. -/
theorem State.push16_cases (s : State) (v : Word) :
    s.inRange (s.sp - 1) = true ∧ s.inRange (s.sp - 2) = true ∧ s.push16 v = .ok (s.pushed v)
    ∨ s.inRange (s.sp - 1) = false ∧ s.push16 v = .error (s.sp - 1)
    ∨ s.inRange (s.sp - 1) = true ∧ s.inRange (s.sp - 2) = false ∧ s.push16 v = .error (s.sp - 2) := by
  rcases State.write8_cases (s.setSp (s.sp - 1)) (s.sp - 1) (hiByte v) with ⟨h1, e1⟩ | ⟨h1, e1⟩
  · rcases State.write8_cases (((s.setSp (s.sp - 1)).setByte (s.sp - 1) (hiByte v)).setSp (s.sp - 1 - 1))
      (s.sp - 1 - 1) (loByte v) with ⟨h2, e2⟩ | ⟨h2, e2⟩
    · refine .inl ⟨h1, State.sp_sub_two s.sp ▸ h2, ?_⟩
      simp only [State.push16, State.push8, e1, bind, Except.bind, State.setByte_sp, State.setSp_sp, e2]
      rw [State.sp_sub_two]
      rfl
    · refine .inr (.inr ⟨h1, State.sp_sub_two s.sp ▸ h2, ?_⟩)
      simp only [State.push16, State.push8, e1, bind, Except.bind, State.setByte_sp, State.setSp_sp, e2]
      rw [State.sp_sub_two]
  · refine .inr (.inl ⟨h1, ?_⟩)
    simp only [State.push16, State.push8, e1, bind, Except.bind]

theorem State.push16_ok {s : State} (h1 : s.inRange (s.sp - 1) = true) (h2 : s.inRange (s.sp - 2) = true) (v : Word) :
    s.push16 v = .ok (s.pushed v) := by
  rcases State.push16_cases s v with h | h | h
  · exact h.2.2
  · exact absurd (h.1.symm.trans h1) (by decide)
  · exact absurd (h.2.1.symm.trans h2) (by decide)

/-- The word a pop reads. -/
def State.top (s : State) : Word := wordOf (s.byteAt (s.sp + 1)) (s.byteAt s.sp)

theorem State.sp_add_two (x : Word) : x + 1 + 1 = x + 2 := by
  rw [BitVec.add_assoc]; rfl

/-- All a pop can answer (spec/41_stack_calls.md R163). -/
theorem State.pop16_cases (s : State) :
    s.inRange s.sp = true ∧ s.inRange (s.sp + 1) = true ∧ s.pop16 = .ok (s.top, s.setSp (s.sp + 2))
    ∨ s.inRange s.sp = false ∧ s.pop16 = .error s.sp
    ∨ s.inRange s.sp = true ∧ s.inRange (s.sp + 1) = false ∧ s.pop16 = .error (s.sp + 1) := by
  rcases State.read8_cases s s.sp with ⟨h1, e1⟩ | ⟨h1, e1⟩
  · rcases State.read8_cases (s.setSp (s.sp + 1)) (s.sp + 1) with ⟨h2, e2⟩ | ⟨h2, e2⟩
    · refine .inl ⟨h1, h2, ?_⟩
      simp only [State.pop16, State.pop8, e1, State.setSp_sp, e2, bind, Except.bind, pure, Except.pure, State.sp_add_two]
      rfl
    · refine .inr (.inr ⟨h1, h2, ?_⟩)
      simp only [State.pop16, State.pop8, e1, State.setSp_sp, e2, bind, Except.bind, pure, Except.pure]
  · refine .inr (.inl ⟨h1, ?_⟩)
    simp only [State.pop16, State.pop8, e1, bind, Except.bind]

theorem State.pop16_ok {s : State} (h1 : s.inRange s.sp = true) (h2 : s.inRange (s.sp + 1) = true) :
    s.pop16 = .ok (s.top, s.setSp (s.sp + 2)) := by
  rcases State.pop16_cases s with h | h | h
  · exact h.2.2
  · exact absurd (h.1.symm.trans h1) (by decide)
  · exact absurd (h.2.1.symm.trans h2) (by decide)

@[simp] theorem State.pushed_a (s : State) (v : Word) : (s.pushed v).a = s.a := rfl
@[simp] theorem State.pushed_f (s : State) (v : Word) : (s.pushed v).f = s.f := rfl
@[simp] theorem State.pushed_b (s : State) (v : Word) : (s.pushed v).b = s.b := rfl
@[simp] theorem State.pushed_c (s : State) (v : Word) : (s.pushed v).c = s.c := rfl
@[simp] theorem State.pushed_d (s : State) (v : Word) : (s.pushed v).d = s.d := rfl
@[simp] theorem State.pushed_e (s : State) (v : Word) : (s.pushed v).e = s.e := rfl
@[simp] theorem State.pushed_h (s : State) (v : Word) : (s.pushed v).h = s.h := rfl
@[simp] theorem State.pushed_l (s : State) (v : Word) : (s.pushed v).l = s.l := rfl
@[simp] theorem State.pushed_sp (s : State) (v : Word) : (s.pushed v).sp = s.sp - 2 := rfl
@[simp] theorem State.pushed_pc (s : State) (v : Word) : (s.pushed v).pc = s.pc := rfl
@[simp] theorem State.pushed_ime (s : State) (v : Word) : (s.pushed v).ime = s.ime := rfl
@[simp] theorem State.pushed_cycles (s : State) (v : Word) : (s.pushed v).cycles = s.cycles := rfl
@[simp] theorem State.pushed_icount (s : State) (v : Word) : (s.pushed v).icount = s.icount := rfl
@[simp] theorem State.pushed_run (s : State) (v : Word) : (s.pushed v).run = s.run := rfl
@[simp] theorem State.pushed_cfg (s : State) (v : Word) : (s.pushed v).cfg = s.cfg := rfl
@[simp] theorem State.pushed_port (s : State) (v : Word) : (s.pushed v).port = s.port := rfl
@[simp] theorem State.pushed_hookCalls (s : State) (v : Word) : (s.pushed v).hookCalls = s.hookCalls := rfl

/-- The bytes a push leaves behind (R162): the high byte above the low one. -/
theorem State.byteAt_pushed (s : State) (v : Word) (y : Word) :
    (s.pushed v).byteAt y
      = if y = s.sp - 2 then loByte v else if y = s.sp - 1 then hiByte v else s.byteAt y := by
  simp only [State.pushed, State.byteAt_setByte]
  rfl

end Sys2Proof.Machine
end

