-- ==== Sys2Proof/Laws/Shape.lean ====
section
/-! SUPPORT. The shape of every instruction's meaning: which rule it runs, always or on a condition, or that it is illegal.
A property of all instructions is then proved by cases on the rules, not on the 512 constructors. -/

namespace Sys2Proof.Machine

/-- The rules the meanings are built from, by name. -/
inductive Rule where
  | loadReg (r : Reg8) (x : Src)
  | storeHl (x : Src)
  | loadA (m : Mode)
  | storeA (m : Mode)
  | loadPair (p : PairSp) (v : Word)
  | storeSp (a16 : Word)
  | loadSpHl
  | loadHlSp (e8 : Byte)
  | alu (op : AluOp) (x : Src)
  | incLoc (x : Loc)
  | decLoc (x : Loc)
  | decimalAdjust
  | complementA
  | setCarry
  | complementCarry
  | incPair (p : PairSp)
  | decPair (p : PairSp)
  | addHl (p : PairSp)
  | addSp (e8 : Byte)
  | shiftA (op : ShiftOp)
  | shiftLoc (op : ShiftOp) (x : Loc)
  | testLoc (b : Fin 8) (x : Loc)
  | resetLoc (b : Fin 8) (x : Loc)
  | setLoc (b : Fin 8) (x : Loc)
  | subTable (sub : Byte)
  | jumpRelative (e8 : Byte)
  | jump (a16 : Word)
  | jumpHl
  | pushPair (p : PairAf)
  | popPair (p : PairAf)
  | call (target : Word)
  | ret
  | retEnable
  | nop
  | halt
  | stop (ignored : Byte)
  | setIme (b : Bool)
deriving DecidableEq, Repr

/-- What a rule does. -/
def Rule.run : Rule → State → Access State
  | .loadReg r x => Sys2Proof.Machine.loadReg r x
  | .storeHl x => Sys2Proof.Machine.storeHl x
  | .loadA m => Sys2Proof.Machine.loadA m
  | .storeA m => Sys2Proof.Machine.storeA m
  | .loadPair p v => Sys2Proof.Machine.loadPair p v
  | .storeSp a16 => Sys2Proof.Machine.storeSp a16
  | .loadSpHl => Sys2Proof.Machine.loadSpHl
  | .loadHlSp e8 => Sys2Proof.Machine.loadHlSp e8
  | .alu op x => Sys2Proof.Machine.alu op x
  | .incLoc x => Sys2Proof.Machine.incLoc x
  | .decLoc x => Sys2Proof.Machine.decLoc x
  | .decimalAdjust => Sys2Proof.Machine.decimalAdjust
  | .complementA => Sys2Proof.Machine.complementA
  | .setCarry => Sys2Proof.Machine.setCarry
  | .complementCarry => Sys2Proof.Machine.complementCarry
  | .incPair p => Sys2Proof.Machine.incPair p
  | .decPair p => Sys2Proof.Machine.decPair p
  | .addHl p => Sys2Proof.Machine.addHl p
  | .addSp e8 => Sys2Proof.Machine.addSp e8
  | .shiftA op => Sys2Proof.Machine.shiftA op
  | .shiftLoc op x => Sys2Proof.Machine.shiftLoc op x
  | .testLoc b x => Sys2Proof.Machine.testLoc b x
  | .resetLoc b x => Sys2Proof.Machine.resetLoc b x
  | .setLoc b x => Sys2Proof.Machine.setLoc b x
  | .subTable sub => Sys2Proof.Machine.subTable sub
  | .jumpRelative e8 => Sys2Proof.Machine.jumpRelative e8
  | .jump a16 => Sys2Proof.Machine.jump a16
  | .jumpHl => Sys2Proof.Machine.jumpHl
  | .pushPair p => Sys2Proof.Machine.pushPair p
  | .popPair p => Sys2Proof.Machine.popPair p
  | .call target => Sys2Proof.Machine.call target
  | .ret => Sys2Proof.Machine.ret
  | .retEnable => Sys2Proof.Machine.retEnable
  | .nop => Sys2Proof.Machine.nop
  | .halt => Sys2Proof.Machine.halt
  | .stop ignored => Sys2Proof.Machine.stop ignored
  | .setIme b => Sys2Proof.Machine.setIme b

/-- How an instruction runs its rule. -/
inductive Shape where
  | always (r : Rule)
  | onCond (cc : Cond) (r : Rule)
  | illegal (op : Byte)
deriving DecidableEq, Repr

/-- What a shape does for a key. -/
def Shape.run (k : Key) (s : State) : Shape → Host.Outcome State Fault Refusal
  | .always r => perform k r.run s
  | .onCond cc r => performIf k (s.cond cc) r.run s
  | .illegal op => Sys2Proof.Machine.illegal op s

/-- The key and the shape of each instruction. -/
def shape : Instr → Key × Shape
  | .nop => (.primary 0x00, .always (.nop))
  | .ld_bc_d16 d16 => (.primary 0x01, .always (.loadPair .bc d16))
  | .ld_at_bc_a => (.primary 0x02, .always (.storeA .bc))
  | .inc_bc => (.primary 0x03, .always (.incPair .bc))
  | .inc_b => (.primary 0x04, .always (.incLoc (.reg .b)))
  | .dec_b => (.primary 0x05, .always (.decLoc (.reg .b)))
  | .ld_b_d8 d8 => (.primary 0x06, .always (.loadReg .b (.imm d8)))
  | .rlca => (.primary 0x07, .always (.shiftA .rlc))
  | .ld_at_a16_sp a16 => (.primary 0x08, .always (.storeSp a16))
  | .add_hl_bc => (.primary 0x09, .always (.addHl .bc))
  | .ld_a_at_bc => (.primary 0x0A, .always (.loadA .bc))
  | .dec_bc => (.primary 0x0B, .always (.decPair .bc))
  | .inc_c => (.primary 0x0C, .always (.incLoc (.reg .c)))
  | .dec_c => (.primary 0x0D, .always (.decLoc (.reg .c)))
  | .ld_c_d8 d8 => (.primary 0x0E, .always (.loadReg .c (.imm d8)))
  | .rrca => (.primary 0x0F, .always (.shiftA .rrc))
  | .stop x => (.primary 0x10, .always (.stop x))
  | .ld_de_d16 d16 => (.primary 0x11, .always (.loadPair .de d16))
  | .ld_at_de_a => (.primary 0x12, .always (.storeA .de))
  | .inc_de => (.primary 0x13, .always (.incPair .de))
  | .inc_d => (.primary 0x14, .always (.incLoc (.reg .d)))
  | .dec_d => (.primary 0x15, .always (.decLoc (.reg .d)))
  | .ld_d_d8 d8 => (.primary 0x16, .always (.loadReg .d (.imm d8)))
  | .rla => (.primary 0x17, .always (.shiftA .rl))
  | .jr_e8 e8 => (.primary 0x18, .always (.jumpRelative e8))
  | .add_hl_de => (.primary 0x19, .always (.addHl .de))
  | .ld_a_at_de => (.primary 0x1A, .always (.loadA .de))
  | .dec_de => (.primary 0x1B, .always (.decPair .de))
  | .inc_e => (.primary 0x1C, .always (.incLoc (.reg .e)))
  | .dec_e => (.primary 0x1D, .always (.decLoc (.reg .e)))
  | .ld_e_d8 d8 => (.primary 0x1E, .always (.loadReg .e (.imm d8)))
  | .rra => (.primary 0x1F, .always (.shiftA .rr))
  | .jr_nz_e8 e8 => (.primary 0x20, .onCond .nz (.jumpRelative e8))
  | .ld_hl_d16 d16 => (.primary 0x21, .always (.loadPair .hl d16))
  | .ld_at_hl_inc_a => (.primary 0x22, .always (.storeA .hlInc))
  | .inc_hl => (.primary 0x23, .always (.incPair .hl))
  | .inc_h => (.primary 0x24, .always (.incLoc (.reg .h)))
  | .dec_h => (.primary 0x25, .always (.decLoc (.reg .h)))
  | .ld_h_d8 d8 => (.primary 0x26, .always (.loadReg .h (.imm d8)))
  | .daa => (.primary 0x27, .always (.decimalAdjust))
  | .jr_z_e8 e8 => (.primary 0x28, .onCond .z (.jumpRelative e8))
  | .add_hl_hl => (.primary 0x29, .always (.addHl .hl))
  | .ld_a_at_hl_inc => (.primary 0x2A, .always (.loadA .hlInc))
  | .dec_hl => (.primary 0x2B, .always (.decPair .hl))
  | .inc_l => (.primary 0x2C, .always (.incLoc (.reg .l)))
  | .dec_l => (.primary 0x2D, .always (.decLoc (.reg .l)))
  | .ld_l_d8 d8 => (.primary 0x2E, .always (.loadReg .l (.imm d8)))
  | .cpl => (.primary 0x2F, .always (.complementA))
  | .jr_nc_e8 e8 => (.primary 0x30, .onCond .nc (.jumpRelative e8))
  | .ld_sp_d16 d16 => (.primary 0x31, .always (.loadPair .sp d16))
  | .ld_at_hl_dec_a => (.primary 0x32, .always (.storeA .hlDec))
  | .inc_sp => (.primary 0x33, .always (.incPair .sp))
  | .inc_at_hl => (.primary 0x34, .always (.incLoc .atHl))
  | .dec_at_hl => (.primary 0x35, .always (.decLoc .atHl))
  | .ld_at_hl_d8 d8 => (.primary 0x36, .always (.storeHl (.imm d8)))
  | .scf => (.primary 0x37, .always (.setCarry))
  | .jr_c_e8 e8 => (.primary 0x38, .onCond .c (.jumpRelative e8))
  | .add_hl_sp => (.primary 0x39, .always (.addHl .sp))
  | .ld_a_at_hl_dec => (.primary 0x3A, .always (.loadA .hlDec))
  | .dec_sp => (.primary 0x3B, .always (.decPair .sp))
  | .inc_a => (.primary 0x3C, .always (.incLoc (.reg .a)))
  | .dec_a => (.primary 0x3D, .always (.decLoc (.reg .a)))
  | .ld_a_d8 d8 => (.primary 0x3E, .always (.loadReg .a (.imm d8)))
  | .ccf => (.primary 0x3F, .always (.complementCarry))
  | .ld_b_b => (.primary 0x40, .always (.loadReg .b (.loc (.reg .b))))
  | .ld_b_c => (.primary 0x41, .always (.loadReg .b (.loc (.reg .c))))
  | .ld_b_d => (.primary 0x42, .always (.loadReg .b (.loc (.reg .d))))
  | .ld_b_e => (.primary 0x43, .always (.loadReg .b (.loc (.reg .e))))
  | .ld_b_h => (.primary 0x44, .always (.loadReg .b (.loc (.reg .h))))
  | .ld_b_l => (.primary 0x45, .always (.loadReg .b (.loc (.reg .l))))
  | .ld_b_at_hl => (.primary 0x46, .always (.loadReg .b (.loc .atHl)))
  | .ld_b_a => (.primary 0x47, .always (.loadReg .b (.loc (.reg .a))))
  | .ld_c_b => (.primary 0x48, .always (.loadReg .c (.loc (.reg .b))))
  | .ld_c_c => (.primary 0x49, .always (.loadReg .c (.loc (.reg .c))))
  | .ld_c_d => (.primary 0x4A, .always (.loadReg .c (.loc (.reg .d))))
  | .ld_c_e => (.primary 0x4B, .always (.loadReg .c (.loc (.reg .e))))
  | .ld_c_h => (.primary 0x4C, .always (.loadReg .c (.loc (.reg .h))))
  | .ld_c_l => (.primary 0x4D, .always (.loadReg .c (.loc (.reg .l))))
  | .ld_c_at_hl => (.primary 0x4E, .always (.loadReg .c (.loc .atHl)))
  | .ld_c_a => (.primary 0x4F, .always (.loadReg .c (.loc (.reg .a))))
  | .ld_d_b => (.primary 0x50, .always (.loadReg .d (.loc (.reg .b))))
  | .ld_d_c => (.primary 0x51, .always (.loadReg .d (.loc (.reg .c))))
  | .ld_d_d => (.primary 0x52, .always (.loadReg .d (.loc (.reg .d))))
  | .ld_d_e => (.primary 0x53, .always (.loadReg .d (.loc (.reg .e))))
  | .ld_d_h => (.primary 0x54, .always (.loadReg .d (.loc (.reg .h))))
  | .ld_d_l => (.primary 0x55, .always (.loadReg .d (.loc (.reg .l))))
  | .ld_d_at_hl => (.primary 0x56, .always (.loadReg .d (.loc .atHl)))
  | .ld_d_a => (.primary 0x57, .always (.loadReg .d (.loc (.reg .a))))
  | .ld_e_b => (.primary 0x58, .always (.loadReg .e (.loc (.reg .b))))
  | .ld_e_c => (.primary 0x59, .always (.loadReg .e (.loc (.reg .c))))
  | .ld_e_d => (.primary 0x5A, .always (.loadReg .e (.loc (.reg .d))))
  | .ld_e_e => (.primary 0x5B, .always (.loadReg .e (.loc (.reg .e))))
  | .ld_e_h => (.primary 0x5C, .always (.loadReg .e (.loc (.reg .h))))
  | .ld_e_l => (.primary 0x5D, .always (.loadReg .e (.loc (.reg .l))))
  | .ld_e_at_hl => (.primary 0x5E, .always (.loadReg .e (.loc .atHl)))
  | .ld_e_a => (.primary 0x5F, .always (.loadReg .e (.loc (.reg .a))))
  | .ld_h_b => (.primary 0x60, .always (.loadReg .h (.loc (.reg .b))))
  | .ld_h_c => (.primary 0x61, .always (.loadReg .h (.loc (.reg .c))))
  | .ld_h_d => (.primary 0x62, .always (.loadReg .h (.loc (.reg .d))))
  | .ld_h_e => (.primary 0x63, .always (.loadReg .h (.loc (.reg .e))))
  | .ld_h_h => (.primary 0x64, .always (.loadReg .h (.loc (.reg .h))))
  | .ld_h_l => (.primary 0x65, .always (.loadReg .h (.loc (.reg .l))))
  | .ld_h_at_hl => (.primary 0x66, .always (.loadReg .h (.loc .atHl)))
  | .ld_h_a => (.primary 0x67, .always (.loadReg .h (.loc (.reg .a))))
  | .ld_l_b => (.primary 0x68, .always (.loadReg .l (.loc (.reg .b))))
  | .ld_l_c => (.primary 0x69, .always (.loadReg .l (.loc (.reg .c))))
  | .ld_l_d => (.primary 0x6A, .always (.loadReg .l (.loc (.reg .d))))
  | .ld_l_e => (.primary 0x6B, .always (.loadReg .l (.loc (.reg .e))))
  | .ld_l_h => (.primary 0x6C, .always (.loadReg .l (.loc (.reg .h))))
  | .ld_l_l => (.primary 0x6D, .always (.loadReg .l (.loc (.reg .l))))
  | .ld_l_at_hl => (.primary 0x6E, .always (.loadReg .l (.loc .atHl)))
  | .ld_l_a => (.primary 0x6F, .always (.loadReg .l (.loc (.reg .a))))
  | .ld_at_hl_b => (.primary 0x70, .always (.storeHl (.loc (.reg .b))))
  | .ld_at_hl_c => (.primary 0x71, .always (.storeHl (.loc (.reg .c))))
  | .ld_at_hl_d => (.primary 0x72, .always (.storeHl (.loc (.reg .d))))
  | .ld_at_hl_e => (.primary 0x73, .always (.storeHl (.loc (.reg .e))))
  | .ld_at_hl_h => (.primary 0x74, .always (.storeHl (.loc (.reg .h))))
  | .ld_at_hl_l => (.primary 0x75, .always (.storeHl (.loc (.reg .l))))
  | .halt => (.primary 0x76, .always (.halt))
  | .ld_at_hl_a => (.primary 0x77, .always (.storeHl (.loc (.reg .a))))
  | .ld_a_b => (.primary 0x78, .always (.loadReg .a (.loc (.reg .b))))
  | .ld_a_c => (.primary 0x79, .always (.loadReg .a (.loc (.reg .c))))
  | .ld_a_d => (.primary 0x7A, .always (.loadReg .a (.loc (.reg .d))))
  | .ld_a_e => (.primary 0x7B, .always (.loadReg .a (.loc (.reg .e))))
  | .ld_a_h => (.primary 0x7C, .always (.loadReg .a (.loc (.reg .h))))
  | .ld_a_l => (.primary 0x7D, .always (.loadReg .a (.loc (.reg .l))))
  | .ld_a_at_hl => (.primary 0x7E, .always (.loadReg .a (.loc .atHl)))
  | .ld_a_a => (.primary 0x7F, .always (.loadReg .a (.loc (.reg .a))))
  | .add_a_b => (.primary 0x80, .always (.alu .add (.loc (.reg .b))))
  | .add_a_c => (.primary 0x81, .always (.alu .add (.loc (.reg .c))))
  | .add_a_d => (.primary 0x82, .always (.alu .add (.loc (.reg .d))))
  | .add_a_e => (.primary 0x83, .always (.alu .add (.loc (.reg .e))))
  | .add_a_h => (.primary 0x84, .always (.alu .add (.loc (.reg .h))))
  | .add_a_l => (.primary 0x85, .always (.alu .add (.loc (.reg .l))))
  | .add_a_at_hl => (.primary 0x86, .always (.alu .add (.loc .atHl)))
  | .add_a_a => (.primary 0x87, .always (.alu .add (.loc (.reg .a))))
  | .adc_a_b => (.primary 0x88, .always (.alu .adc (.loc (.reg .b))))
  | .adc_a_c => (.primary 0x89, .always (.alu .adc (.loc (.reg .c))))
  | .adc_a_d => (.primary 0x8A, .always (.alu .adc (.loc (.reg .d))))
  | .adc_a_e => (.primary 0x8B, .always (.alu .adc (.loc (.reg .e))))
  | .adc_a_h => (.primary 0x8C, .always (.alu .adc (.loc (.reg .h))))
  | .adc_a_l => (.primary 0x8D, .always (.alu .adc (.loc (.reg .l))))
  | .adc_a_at_hl => (.primary 0x8E, .always (.alu .adc (.loc .atHl)))
  | .adc_a_a => (.primary 0x8F, .always (.alu .adc (.loc (.reg .a))))
  | .sub_b => (.primary 0x90, .always (.alu .sub (.loc (.reg .b))))
  | .sub_c => (.primary 0x91, .always (.alu .sub (.loc (.reg .c))))
  | .sub_d => (.primary 0x92, .always (.alu .sub (.loc (.reg .d))))
  | .sub_e => (.primary 0x93, .always (.alu .sub (.loc (.reg .e))))
  | .sub_h => (.primary 0x94, .always (.alu .sub (.loc (.reg .h))))
  | .sub_l => (.primary 0x95, .always (.alu .sub (.loc (.reg .l))))
  | .sub_at_hl => (.primary 0x96, .always (.alu .sub (.loc .atHl)))
  | .sub_a => (.primary 0x97, .always (.alu .sub (.loc (.reg .a))))
  | .sbc_a_b => (.primary 0x98, .always (.alu .sbc (.loc (.reg .b))))
  | .sbc_a_c => (.primary 0x99, .always (.alu .sbc (.loc (.reg .c))))
  | .sbc_a_d => (.primary 0x9A, .always (.alu .sbc (.loc (.reg .d))))
  | .sbc_a_e => (.primary 0x9B, .always (.alu .sbc (.loc (.reg .e))))
  | .sbc_a_h => (.primary 0x9C, .always (.alu .sbc (.loc (.reg .h))))
  | .sbc_a_l => (.primary 0x9D, .always (.alu .sbc (.loc (.reg .l))))
  | .sbc_a_at_hl => (.primary 0x9E, .always (.alu .sbc (.loc .atHl)))
  | .sbc_a_a => (.primary 0x9F, .always (.alu .sbc (.loc (.reg .a))))
  | .and_b => (.primary 0xA0, .always (.alu .and (.loc (.reg .b))))
  | .and_c => (.primary 0xA1, .always (.alu .and (.loc (.reg .c))))
  | .and_d => (.primary 0xA2, .always (.alu .and (.loc (.reg .d))))
  | .and_e => (.primary 0xA3, .always (.alu .and (.loc (.reg .e))))
  | .and_h => (.primary 0xA4, .always (.alu .and (.loc (.reg .h))))
  | .and_l => (.primary 0xA5, .always (.alu .and (.loc (.reg .l))))
  | .and_at_hl => (.primary 0xA6, .always (.alu .and (.loc .atHl)))
  | .and_a => (.primary 0xA7, .always (.alu .and (.loc (.reg .a))))
  | .xor_b => (.primary 0xA8, .always (.alu .xor (.loc (.reg .b))))
  | .xor_c => (.primary 0xA9, .always (.alu .xor (.loc (.reg .c))))
  | .xor_d => (.primary 0xAA, .always (.alu .xor (.loc (.reg .d))))
  | .xor_e => (.primary 0xAB, .always (.alu .xor (.loc (.reg .e))))
  | .xor_h => (.primary 0xAC, .always (.alu .xor (.loc (.reg .h))))
  | .xor_l => (.primary 0xAD, .always (.alu .xor (.loc (.reg .l))))
  | .xor_at_hl => (.primary 0xAE, .always (.alu .xor (.loc .atHl)))
  | .xor_a => (.primary 0xAF, .always (.alu .xor (.loc (.reg .a))))
  | .or_b => (.primary 0xB0, .always (.alu .or (.loc (.reg .b))))
  | .or_c => (.primary 0xB1, .always (.alu .or (.loc (.reg .c))))
  | .or_d => (.primary 0xB2, .always (.alu .or (.loc (.reg .d))))
  | .or_e => (.primary 0xB3, .always (.alu .or (.loc (.reg .e))))
  | .or_h => (.primary 0xB4, .always (.alu .or (.loc (.reg .h))))
  | .or_l => (.primary 0xB5, .always (.alu .or (.loc (.reg .l))))
  | .or_at_hl => (.primary 0xB6, .always (.alu .or (.loc .atHl)))
  | .or_a => (.primary 0xB7, .always (.alu .or (.loc (.reg .a))))
  | .cp_b => (.primary 0xB8, .always (.alu .cp (.loc (.reg .b))))
  | .cp_c => (.primary 0xB9, .always (.alu .cp (.loc (.reg .c))))
  | .cp_d => (.primary 0xBA, .always (.alu .cp (.loc (.reg .d))))
  | .cp_e => (.primary 0xBB, .always (.alu .cp (.loc (.reg .e))))
  | .cp_h => (.primary 0xBC, .always (.alu .cp (.loc (.reg .h))))
  | .cp_l => (.primary 0xBD, .always (.alu .cp (.loc (.reg .l))))
  | .cp_at_hl => (.primary 0xBE, .always (.alu .cp (.loc .atHl)))
  | .cp_a => (.primary 0xBF, .always (.alu .cp (.loc (.reg .a))))
  | .ret_nz => (.primary 0xC0, .onCond .nz (.ret))
  | .pop_bc => (.primary 0xC1, .always (.popPair .bc))
  | .jp_nz_a16 a16 => (.primary 0xC2, .onCond .nz (.jump a16))
  | .jp_a16 a16 => (.primary 0xC3, .always (.jump a16))
  | .call_nz_a16 a16 => (.primary 0xC4, .onCond .nz (.call a16))
  | .push_bc => (.primary 0xC5, .always (.pushPair .bc))
  | .add_a_d8 d8 => (.primary 0xC6, .always (.alu .add (.imm d8)))
  | .rst_00 => (.primary 0xC7, .always (.call 0x0000))
  | .ret_z => (.primary 0xC8, .onCond .z (.ret))
  | .ret => (.primary 0xC9, .always (.ret))
  | .jp_z_a16 a16 => (.primary 0xCA, .onCond .z (.jump a16))
  | .cb_prefix sub => (.cb sub, .always (.subTable sub))
  | .call_z_a16 a16 => (.primary 0xCC, .onCond .z (.call a16))
  | .call_a16 a16 => (.primary 0xCD, .always (.call a16))
  | .adc_a_d8 d8 => (.primary 0xCE, .always (.alu .adc (.imm d8)))
  | .rst_08 => (.primary 0xCF, .always (.call 0x0008))
  | .ret_nc => (.primary 0xD0, .onCond .nc (.ret))
  | .pop_de => (.primary 0xD1, .always (.popPair .de))
  | .jp_nc_a16 a16 => (.primary 0xD2, .onCond .nc (.jump a16))
  | .illegal_d3 => (.primary 0xD3, .illegal 0xD3)
  | .call_nc_a16 a16 => (.primary 0xD4, .onCond .nc (.call a16))
  | .push_de => (.primary 0xD5, .always (.pushPair .de))
  | .sub_d8 d8 => (.primary 0xD6, .always (.alu .sub (.imm d8)))
  | .rst_10 => (.primary 0xD7, .always (.call 0x0010))
  | .ret_c => (.primary 0xD8, .onCond .c (.ret))
  | .reti => (.primary 0xD9, .always (.retEnable))
  | .jp_c_a16 a16 => (.primary 0xDA, .onCond .c (.jump a16))
  | .illegal_db => (.primary 0xDB, .illegal 0xDB)
  | .call_c_a16 a16 => (.primary 0xDC, .onCond .c (.call a16))
  | .illegal_dd => (.primary 0xDD, .illegal 0xDD)
  | .sbc_a_d8 d8 => (.primary 0xDE, .always (.alu .sbc (.imm d8)))
  | .rst_18 => (.primary 0xDF, .always (.call 0x0018))
  | .ldh_at_a8_a a8 => (.primary 0xE0, .always (.storeA (.high a8)))
  | .pop_hl => (.primary 0xE1, .always (.popPair .hl))
  | .ld_at_c_a => (.primary 0xE2, .always (.storeA .highC))
  | .illegal_e3 => (.primary 0xE3, .illegal 0xE3)
  | .illegal_e4 => (.primary 0xE4, .illegal 0xE4)
  | .push_hl => (.primary 0xE5, .always (.pushPair .hl))
  | .and_d8 d8 => (.primary 0xE6, .always (.alu .and (.imm d8)))
  | .rst_20 => (.primary 0xE7, .always (.call 0x0020))
  | .add_sp_e8 e8 => (.primary 0xE8, .always (.addSp e8))
  | .jp_hl => (.primary 0xE9, .always (.jumpHl))
  | .ld_at_a16_a a16 => (.primary 0xEA, .always (.storeA (.abs a16)))
  | .illegal_eb => (.primary 0xEB, .illegal 0xEB)
  | .illegal_ec => (.primary 0xEC, .illegal 0xEC)
  | .illegal_ed => (.primary 0xED, .illegal 0xED)
  | .xor_d8 d8 => (.primary 0xEE, .always (.alu .xor (.imm d8)))
  | .rst_28 => (.primary 0xEF, .always (.call 0x0028))
  | .ldh_a_at_a8 a8 => (.primary 0xF0, .always (.loadA (.high a8)))
  | .pop_af => (.primary 0xF1, .always (.popPair .af))
  | .ld_a_at_c => (.primary 0xF2, .always (.loadA .highC))
  | .di => (.primary 0xF3, .always (.setIme false))
  | .illegal_f4 => (.primary 0xF4, .illegal 0xF4)
  | .push_af => (.primary 0xF5, .always (.pushPair .af))
  | .or_d8 d8 => (.primary 0xF6, .always (.alu .or (.imm d8)))
  | .rst_30 => (.primary 0xF7, .always (.call 0x0030))
  | .ld_hl_sp_e8 e8 => (.primary 0xF8, .always (.loadHlSp e8))
  | .ld_sp_hl => (.primary 0xF9, .always (.loadSpHl))
  | .ld_a_at_a16 a16 => (.primary 0xFA, .always (.loadA (.abs a16)))
  | .ei => (.primary 0xFB, .always (.setIme true))
  | .illegal_fc => (.primary 0xFC, .illegal 0xFC)
  | .illegal_fd => (.primary 0xFD, .illegal 0xFD)
  | .cp_d8 d8 => (.primary 0xFE, .always (.alu .cp (.imm d8)))
  | .rst_38 => (.primary 0xFF, .always (.call 0x0038))
  | .rlc_b => (.cb 0x00, .always (.shiftLoc .rlc (.reg .b)))
  | .rlc_c => (.cb 0x01, .always (.shiftLoc .rlc (.reg .c)))
  | .rlc_d => (.cb 0x02, .always (.shiftLoc .rlc (.reg .d)))
  | .rlc_e => (.cb 0x03, .always (.shiftLoc .rlc (.reg .e)))
  | .rlc_h => (.cb 0x04, .always (.shiftLoc .rlc (.reg .h)))
  | .rlc_l => (.cb 0x05, .always (.shiftLoc .rlc (.reg .l)))
  | .rlc_at_hl => (.cb 0x06, .always (.shiftLoc .rlc .atHl))
  | .rlc_a => (.cb 0x07, .always (.shiftLoc .rlc (.reg .a)))
  | .rrc_b => (.cb 0x08, .always (.shiftLoc .rrc (.reg .b)))
  | .rrc_c => (.cb 0x09, .always (.shiftLoc .rrc (.reg .c)))
  | .rrc_d => (.cb 0x0A, .always (.shiftLoc .rrc (.reg .d)))
  | .rrc_e => (.cb 0x0B, .always (.shiftLoc .rrc (.reg .e)))
  | .rrc_h => (.cb 0x0C, .always (.shiftLoc .rrc (.reg .h)))
  | .rrc_l => (.cb 0x0D, .always (.shiftLoc .rrc (.reg .l)))
  | .rrc_at_hl => (.cb 0x0E, .always (.shiftLoc .rrc .atHl))
  | .rrc_a => (.cb 0x0F, .always (.shiftLoc .rrc (.reg .a)))
  | .rl_b => (.cb 0x10, .always (.shiftLoc .rl (.reg .b)))
  | .rl_c => (.cb 0x11, .always (.shiftLoc .rl (.reg .c)))
  | .rl_d => (.cb 0x12, .always (.shiftLoc .rl (.reg .d)))
  | .rl_e => (.cb 0x13, .always (.shiftLoc .rl (.reg .e)))
  | .rl_h => (.cb 0x14, .always (.shiftLoc .rl (.reg .h)))
  | .rl_l => (.cb 0x15, .always (.shiftLoc .rl (.reg .l)))
  | .rl_at_hl => (.cb 0x16, .always (.shiftLoc .rl .atHl))
  | .rl_a => (.cb 0x17, .always (.shiftLoc .rl (.reg .a)))
  | .rr_b => (.cb 0x18, .always (.shiftLoc .rr (.reg .b)))
  | .rr_c => (.cb 0x19, .always (.shiftLoc .rr (.reg .c)))
  | .rr_d => (.cb 0x1A, .always (.shiftLoc .rr (.reg .d)))
  | .rr_e => (.cb 0x1B, .always (.shiftLoc .rr (.reg .e)))
  | .rr_h => (.cb 0x1C, .always (.shiftLoc .rr (.reg .h)))
  | .rr_l => (.cb 0x1D, .always (.shiftLoc .rr (.reg .l)))
  | .rr_at_hl => (.cb 0x1E, .always (.shiftLoc .rr .atHl))
  | .rr_a => (.cb 0x1F, .always (.shiftLoc .rr (.reg .a)))
  | .sla_b => (.cb 0x20, .always (.shiftLoc .sla (.reg .b)))
  | .sla_c => (.cb 0x21, .always (.shiftLoc .sla (.reg .c)))
  | .sla_d => (.cb 0x22, .always (.shiftLoc .sla (.reg .d)))
  | .sla_e => (.cb 0x23, .always (.shiftLoc .sla (.reg .e)))
  | .sla_h => (.cb 0x24, .always (.shiftLoc .sla (.reg .h)))
  | .sla_l => (.cb 0x25, .always (.shiftLoc .sla (.reg .l)))
  | .sla_at_hl => (.cb 0x26, .always (.shiftLoc .sla .atHl))
  | .sla_a => (.cb 0x27, .always (.shiftLoc .sla (.reg .a)))
  | .sra_b => (.cb 0x28, .always (.shiftLoc .sra (.reg .b)))
  | .sra_c => (.cb 0x29, .always (.shiftLoc .sra (.reg .c)))
  | .sra_d => (.cb 0x2A, .always (.shiftLoc .sra (.reg .d)))
  | .sra_e => (.cb 0x2B, .always (.shiftLoc .sra (.reg .e)))
  | .sra_h => (.cb 0x2C, .always (.shiftLoc .sra (.reg .h)))
  | .sra_l => (.cb 0x2D, .always (.shiftLoc .sra (.reg .l)))
  | .sra_at_hl => (.cb 0x2E, .always (.shiftLoc .sra .atHl))
  | .sra_a => (.cb 0x2F, .always (.shiftLoc .sra (.reg .a)))
  | .swap_b => (.cb 0x30, .always (.shiftLoc .swap (.reg .b)))
  | .swap_c => (.cb 0x31, .always (.shiftLoc .swap (.reg .c)))
  | .swap_d => (.cb 0x32, .always (.shiftLoc .swap (.reg .d)))
  | .swap_e => (.cb 0x33, .always (.shiftLoc .swap (.reg .e)))
  | .swap_h => (.cb 0x34, .always (.shiftLoc .swap (.reg .h)))
  | .swap_l => (.cb 0x35, .always (.shiftLoc .swap (.reg .l)))
  | .swap_at_hl => (.cb 0x36, .always (.shiftLoc .swap .atHl))
  | .swap_a => (.cb 0x37, .always (.shiftLoc .swap (.reg .a)))
  | .srl_b => (.cb 0x38, .always (.shiftLoc .srl (.reg .b)))
  | .srl_c => (.cb 0x39, .always (.shiftLoc .srl (.reg .c)))
  | .srl_d => (.cb 0x3A, .always (.shiftLoc .srl (.reg .d)))
  | .srl_e => (.cb 0x3B, .always (.shiftLoc .srl (.reg .e)))
  | .srl_h => (.cb 0x3C, .always (.shiftLoc .srl (.reg .h)))
  | .srl_l => (.cb 0x3D, .always (.shiftLoc .srl (.reg .l)))
  | .srl_at_hl => (.cb 0x3E, .always (.shiftLoc .srl .atHl))
  | .srl_a => (.cb 0x3F, .always (.shiftLoc .srl (.reg .a)))
  | .bit_0_b => (.cb 0x40, .always (.testLoc 0 (.reg .b)))
  | .bit_0_c => (.cb 0x41, .always (.testLoc 0 (.reg .c)))
  | .bit_0_d => (.cb 0x42, .always (.testLoc 0 (.reg .d)))
  | .bit_0_e => (.cb 0x43, .always (.testLoc 0 (.reg .e)))
  | .bit_0_h => (.cb 0x44, .always (.testLoc 0 (.reg .h)))
  | .bit_0_l => (.cb 0x45, .always (.testLoc 0 (.reg .l)))
  | .bit_0_at_hl => (.cb 0x46, .always (.testLoc 0 .atHl))
  | .bit_0_a => (.cb 0x47, .always (.testLoc 0 (.reg .a)))
  | .bit_1_b => (.cb 0x48, .always (.testLoc 1 (.reg .b)))
  | .bit_1_c => (.cb 0x49, .always (.testLoc 1 (.reg .c)))
  | .bit_1_d => (.cb 0x4A, .always (.testLoc 1 (.reg .d)))
  | .bit_1_e => (.cb 0x4B, .always (.testLoc 1 (.reg .e)))
  | .bit_1_h => (.cb 0x4C, .always (.testLoc 1 (.reg .h)))
  | .bit_1_l => (.cb 0x4D, .always (.testLoc 1 (.reg .l)))
  | .bit_1_at_hl => (.cb 0x4E, .always (.testLoc 1 .atHl))
  | .bit_1_a => (.cb 0x4F, .always (.testLoc 1 (.reg .a)))
  | .bit_2_b => (.cb 0x50, .always (.testLoc 2 (.reg .b)))
  | .bit_2_c => (.cb 0x51, .always (.testLoc 2 (.reg .c)))
  | .bit_2_d => (.cb 0x52, .always (.testLoc 2 (.reg .d)))
  | .bit_2_e => (.cb 0x53, .always (.testLoc 2 (.reg .e)))
  | .bit_2_h => (.cb 0x54, .always (.testLoc 2 (.reg .h)))
  | .bit_2_l => (.cb 0x55, .always (.testLoc 2 (.reg .l)))
  | .bit_2_at_hl => (.cb 0x56, .always (.testLoc 2 .atHl))
  | .bit_2_a => (.cb 0x57, .always (.testLoc 2 (.reg .a)))
  | .bit_3_b => (.cb 0x58, .always (.testLoc 3 (.reg .b)))
  | .bit_3_c => (.cb 0x59, .always (.testLoc 3 (.reg .c)))
  | .bit_3_d => (.cb 0x5A, .always (.testLoc 3 (.reg .d)))
  | .bit_3_e => (.cb 0x5B, .always (.testLoc 3 (.reg .e)))
  | .bit_3_h => (.cb 0x5C, .always (.testLoc 3 (.reg .h)))
  | .bit_3_l => (.cb 0x5D, .always (.testLoc 3 (.reg .l)))
  | .bit_3_at_hl => (.cb 0x5E, .always (.testLoc 3 .atHl))
  | .bit_3_a => (.cb 0x5F, .always (.testLoc 3 (.reg .a)))
  | .bit_4_b => (.cb 0x60, .always (.testLoc 4 (.reg .b)))
  | .bit_4_c => (.cb 0x61, .always (.testLoc 4 (.reg .c)))
  | .bit_4_d => (.cb 0x62, .always (.testLoc 4 (.reg .d)))
  | .bit_4_e => (.cb 0x63, .always (.testLoc 4 (.reg .e)))
  | .bit_4_h => (.cb 0x64, .always (.testLoc 4 (.reg .h)))
  | .bit_4_l => (.cb 0x65, .always (.testLoc 4 (.reg .l)))
  | .bit_4_at_hl => (.cb 0x66, .always (.testLoc 4 .atHl))
  | .bit_4_a => (.cb 0x67, .always (.testLoc 4 (.reg .a)))
  | .bit_5_b => (.cb 0x68, .always (.testLoc 5 (.reg .b)))
  | .bit_5_c => (.cb 0x69, .always (.testLoc 5 (.reg .c)))
  | .bit_5_d => (.cb 0x6A, .always (.testLoc 5 (.reg .d)))
  | .bit_5_e => (.cb 0x6B, .always (.testLoc 5 (.reg .e)))
  | .bit_5_h => (.cb 0x6C, .always (.testLoc 5 (.reg .h)))
  | .bit_5_l => (.cb 0x6D, .always (.testLoc 5 (.reg .l)))
  | .bit_5_at_hl => (.cb 0x6E, .always (.testLoc 5 .atHl))
  | .bit_5_a => (.cb 0x6F, .always (.testLoc 5 (.reg .a)))
  | .bit_6_b => (.cb 0x70, .always (.testLoc 6 (.reg .b)))
  | .bit_6_c => (.cb 0x71, .always (.testLoc 6 (.reg .c)))
  | .bit_6_d => (.cb 0x72, .always (.testLoc 6 (.reg .d)))
  | .bit_6_e => (.cb 0x73, .always (.testLoc 6 (.reg .e)))
  | .bit_6_h => (.cb 0x74, .always (.testLoc 6 (.reg .h)))
  | .bit_6_l => (.cb 0x75, .always (.testLoc 6 (.reg .l)))
  | .bit_6_at_hl => (.cb 0x76, .always (.testLoc 6 .atHl))
  | .bit_6_a => (.cb 0x77, .always (.testLoc 6 (.reg .a)))
  | .bit_7_b => (.cb 0x78, .always (.testLoc 7 (.reg .b)))
  | .bit_7_c => (.cb 0x79, .always (.testLoc 7 (.reg .c)))
  | .bit_7_d => (.cb 0x7A, .always (.testLoc 7 (.reg .d)))
  | .bit_7_e => (.cb 0x7B, .always (.testLoc 7 (.reg .e)))
  | .bit_7_h => (.cb 0x7C, .always (.testLoc 7 (.reg .h)))
  | .bit_7_l => (.cb 0x7D, .always (.testLoc 7 (.reg .l)))
  | .bit_7_at_hl => (.cb 0x7E, .always (.testLoc 7 .atHl))
  | .bit_7_a => (.cb 0x7F, .always (.testLoc 7 (.reg .a)))
  | .res_0_b => (.cb 0x80, .always (.resetLoc 0 (.reg .b)))
  | .res_0_c => (.cb 0x81, .always (.resetLoc 0 (.reg .c)))
  | .res_0_d => (.cb 0x82, .always (.resetLoc 0 (.reg .d)))
  | .res_0_e => (.cb 0x83, .always (.resetLoc 0 (.reg .e)))
  | .res_0_h => (.cb 0x84, .always (.resetLoc 0 (.reg .h)))
  | .res_0_l => (.cb 0x85, .always (.resetLoc 0 (.reg .l)))
  | .res_0_at_hl => (.cb 0x86, .always (.resetLoc 0 .atHl))
  | .res_0_a => (.cb 0x87, .always (.resetLoc 0 (.reg .a)))
  | .res_1_b => (.cb 0x88, .always (.resetLoc 1 (.reg .b)))
  | .res_1_c => (.cb 0x89, .always (.resetLoc 1 (.reg .c)))
  | .res_1_d => (.cb 0x8A, .always (.resetLoc 1 (.reg .d)))
  | .res_1_e => (.cb 0x8B, .always (.resetLoc 1 (.reg .e)))
  | .res_1_h => (.cb 0x8C, .always (.resetLoc 1 (.reg .h)))
  | .res_1_l => (.cb 0x8D, .always (.resetLoc 1 (.reg .l)))
  | .res_1_at_hl => (.cb 0x8E, .always (.resetLoc 1 .atHl))
  | .res_1_a => (.cb 0x8F, .always (.resetLoc 1 (.reg .a)))
  | .res_2_b => (.cb 0x90, .always (.resetLoc 2 (.reg .b)))
  | .res_2_c => (.cb 0x91, .always (.resetLoc 2 (.reg .c)))
  | .res_2_d => (.cb 0x92, .always (.resetLoc 2 (.reg .d)))
  | .res_2_e => (.cb 0x93, .always (.resetLoc 2 (.reg .e)))
  | .res_2_h => (.cb 0x94, .always (.resetLoc 2 (.reg .h)))
  | .res_2_l => (.cb 0x95, .always (.resetLoc 2 (.reg .l)))
  | .res_2_at_hl => (.cb 0x96, .always (.resetLoc 2 .atHl))
  | .res_2_a => (.cb 0x97, .always (.resetLoc 2 (.reg .a)))
  | .res_3_b => (.cb 0x98, .always (.resetLoc 3 (.reg .b)))
  | .res_3_c => (.cb 0x99, .always (.resetLoc 3 (.reg .c)))
  | .res_3_d => (.cb 0x9A, .always (.resetLoc 3 (.reg .d)))
  | .res_3_e => (.cb 0x9B, .always (.resetLoc 3 (.reg .e)))
  | .res_3_h => (.cb 0x9C, .always (.resetLoc 3 (.reg .h)))
  | .res_3_l => (.cb 0x9D, .always (.resetLoc 3 (.reg .l)))
  | .res_3_at_hl => (.cb 0x9E, .always (.resetLoc 3 .atHl))
  | .res_3_a => (.cb 0x9F, .always (.resetLoc 3 (.reg .a)))
  | .res_4_b => (.cb 0xA0, .always (.resetLoc 4 (.reg .b)))
  | .res_4_c => (.cb 0xA1, .always (.resetLoc 4 (.reg .c)))
  | .res_4_d => (.cb 0xA2, .always (.resetLoc 4 (.reg .d)))
  | .res_4_e => (.cb 0xA3, .always (.resetLoc 4 (.reg .e)))
  | .res_4_h => (.cb 0xA4, .always (.resetLoc 4 (.reg .h)))
  | .res_4_l => (.cb 0xA5, .always (.resetLoc 4 (.reg .l)))
  | .res_4_at_hl => (.cb 0xA6, .always (.resetLoc 4 .atHl))
  | .res_4_a => (.cb 0xA7, .always (.resetLoc 4 (.reg .a)))
  | .res_5_b => (.cb 0xA8, .always (.resetLoc 5 (.reg .b)))
  | .res_5_c => (.cb 0xA9, .always (.resetLoc 5 (.reg .c)))
  | .res_5_d => (.cb 0xAA, .always (.resetLoc 5 (.reg .d)))
  | .res_5_e => (.cb 0xAB, .always (.resetLoc 5 (.reg .e)))
  | .res_5_h => (.cb 0xAC, .always (.resetLoc 5 (.reg .h)))
  | .res_5_l => (.cb 0xAD, .always (.resetLoc 5 (.reg .l)))
  | .res_5_at_hl => (.cb 0xAE, .always (.resetLoc 5 .atHl))
  | .res_5_a => (.cb 0xAF, .always (.resetLoc 5 (.reg .a)))
  | .res_6_b => (.cb 0xB0, .always (.resetLoc 6 (.reg .b)))
  | .res_6_c => (.cb 0xB1, .always (.resetLoc 6 (.reg .c)))
  | .res_6_d => (.cb 0xB2, .always (.resetLoc 6 (.reg .d)))
  | .res_6_e => (.cb 0xB3, .always (.resetLoc 6 (.reg .e)))
  | .res_6_h => (.cb 0xB4, .always (.resetLoc 6 (.reg .h)))
  | .res_6_l => (.cb 0xB5, .always (.resetLoc 6 (.reg .l)))
  | .res_6_at_hl => (.cb 0xB6, .always (.resetLoc 6 .atHl))
  | .res_6_a => (.cb 0xB7, .always (.resetLoc 6 (.reg .a)))
  | .res_7_b => (.cb 0xB8, .always (.resetLoc 7 (.reg .b)))
  | .res_7_c => (.cb 0xB9, .always (.resetLoc 7 (.reg .c)))
  | .res_7_d => (.cb 0xBA, .always (.resetLoc 7 (.reg .d)))
  | .res_7_e => (.cb 0xBB, .always (.resetLoc 7 (.reg .e)))
  | .res_7_h => (.cb 0xBC, .always (.resetLoc 7 (.reg .h)))
  | .res_7_l => (.cb 0xBD, .always (.resetLoc 7 (.reg .l)))
  | .res_7_at_hl => (.cb 0xBE, .always (.resetLoc 7 .atHl))
  | .res_7_a => (.cb 0xBF, .always (.resetLoc 7 (.reg .a)))
  | .set_0_b => (.cb 0xC0, .always (.setLoc 0 (.reg .b)))
  | .set_0_c => (.cb 0xC1, .always (.setLoc 0 (.reg .c)))
  | .set_0_d => (.cb 0xC2, .always (.setLoc 0 (.reg .d)))
  | .set_0_e => (.cb 0xC3, .always (.setLoc 0 (.reg .e)))
  | .set_0_h => (.cb 0xC4, .always (.setLoc 0 (.reg .h)))
  | .set_0_l => (.cb 0xC5, .always (.setLoc 0 (.reg .l)))
  | .set_0_at_hl => (.cb 0xC6, .always (.setLoc 0 .atHl))
  | .set_0_a => (.cb 0xC7, .always (.setLoc 0 (.reg .a)))
  | .set_1_b => (.cb 0xC8, .always (.setLoc 1 (.reg .b)))
  | .set_1_c => (.cb 0xC9, .always (.setLoc 1 (.reg .c)))
  | .set_1_d => (.cb 0xCA, .always (.setLoc 1 (.reg .d)))
  | .set_1_e => (.cb 0xCB, .always (.setLoc 1 (.reg .e)))
  | .set_1_h => (.cb 0xCC, .always (.setLoc 1 (.reg .h)))
  | .set_1_l => (.cb 0xCD, .always (.setLoc 1 (.reg .l)))
  | .set_1_at_hl => (.cb 0xCE, .always (.setLoc 1 .atHl))
  | .set_1_a => (.cb 0xCF, .always (.setLoc 1 (.reg .a)))
  | .set_2_b => (.cb 0xD0, .always (.setLoc 2 (.reg .b)))
  | .set_2_c => (.cb 0xD1, .always (.setLoc 2 (.reg .c)))
  | .set_2_d => (.cb 0xD2, .always (.setLoc 2 (.reg .d)))
  | .set_2_e => (.cb 0xD3, .always (.setLoc 2 (.reg .e)))
  | .set_2_h => (.cb 0xD4, .always (.setLoc 2 (.reg .h)))
  | .set_2_l => (.cb 0xD5, .always (.setLoc 2 (.reg .l)))
  | .set_2_at_hl => (.cb 0xD6, .always (.setLoc 2 .atHl))
  | .set_2_a => (.cb 0xD7, .always (.setLoc 2 (.reg .a)))
  | .set_3_b => (.cb 0xD8, .always (.setLoc 3 (.reg .b)))
  | .set_3_c => (.cb 0xD9, .always (.setLoc 3 (.reg .c)))
  | .set_3_d => (.cb 0xDA, .always (.setLoc 3 (.reg .d)))
  | .set_3_e => (.cb 0xDB, .always (.setLoc 3 (.reg .e)))
  | .set_3_h => (.cb 0xDC, .always (.setLoc 3 (.reg .h)))
  | .set_3_l => (.cb 0xDD, .always (.setLoc 3 (.reg .l)))
  | .set_3_at_hl => (.cb 0xDE, .always (.setLoc 3 .atHl))
  | .set_3_a => (.cb 0xDF, .always (.setLoc 3 (.reg .a)))
  | .set_4_b => (.cb 0xE0, .always (.setLoc 4 (.reg .b)))
  | .set_4_c => (.cb 0xE1, .always (.setLoc 4 (.reg .c)))
  | .set_4_d => (.cb 0xE2, .always (.setLoc 4 (.reg .d)))
  | .set_4_e => (.cb 0xE3, .always (.setLoc 4 (.reg .e)))
  | .set_4_h => (.cb 0xE4, .always (.setLoc 4 (.reg .h)))
  | .set_4_l => (.cb 0xE5, .always (.setLoc 4 (.reg .l)))
  | .set_4_at_hl => (.cb 0xE6, .always (.setLoc 4 .atHl))
  | .set_4_a => (.cb 0xE7, .always (.setLoc 4 (.reg .a)))
  | .set_5_b => (.cb 0xE8, .always (.setLoc 5 (.reg .b)))
  | .set_5_c => (.cb 0xE9, .always (.setLoc 5 (.reg .c)))
  | .set_5_d => (.cb 0xEA, .always (.setLoc 5 (.reg .d)))
  | .set_5_e => (.cb 0xEB, .always (.setLoc 5 (.reg .e)))
  | .set_5_h => (.cb 0xEC, .always (.setLoc 5 (.reg .h)))
  | .set_5_l => (.cb 0xED, .always (.setLoc 5 (.reg .l)))
  | .set_5_at_hl => (.cb 0xEE, .always (.setLoc 5 .atHl))
  | .set_5_a => (.cb 0xEF, .always (.setLoc 5 (.reg .a)))
  | .set_6_b => (.cb 0xF0, .always (.setLoc 6 (.reg .b)))
  | .set_6_c => (.cb 0xF1, .always (.setLoc 6 (.reg .c)))
  | .set_6_d => (.cb 0xF2, .always (.setLoc 6 (.reg .d)))
  | .set_6_e => (.cb 0xF3, .always (.setLoc 6 (.reg .e)))
  | .set_6_h => (.cb 0xF4, .always (.setLoc 6 (.reg .h)))
  | .set_6_l => (.cb 0xF5, .always (.setLoc 6 (.reg .l)))
  | .set_6_at_hl => (.cb 0xF6, .always (.setLoc 6 .atHl))
  | .set_6_a => (.cb 0xF7, .always (.setLoc 6 (.reg .a)))
  | .set_7_b => (.cb 0xF8, .always (.setLoc 7 (.reg .b)))
  | .set_7_c => (.cb 0xF9, .always (.setLoc 7 (.reg .c)))
  | .set_7_d => (.cb 0xFA, .always (.setLoc 7 (.reg .d)))
  | .set_7_e => (.cb 0xFB, .always (.setLoc 7 (.reg .e)))
  | .set_7_h => (.cb 0xFC, .always (.setLoc 7 (.reg .h)))
  | .set_7_l => (.cb 0xFD, .always (.setLoc 7 (.reg .l)))
  | .set_7_at_hl => (.cb 0xFE, .always (.setLoc 7 .atHl))
  | .set_7_a => (.cb 0xFF, .always (.setLoc 7 (.reg .a)))

/-- Every meaning is its shape's. -/
theorem exec_eq_shape (i : Instr) (s : State) : exec i s = (shape i).2.run (shape i).1 s := by
  cases i <;> rfl

/-- The key of a meaning is the key of the instruction's bytes (the row CB_prefix stands for its sub-opcode's key). -/
theorem shape_key (i : Instr) : (shape i).1 = i.key := by
  cases i <;> rfl

end Sys2Proof.Machine
end

