-- ==== Sys2Proof/Laws/Rules.lean ====
section
/-! SUPPORT. What every rule of the instruction set keeps, said once: a rule that succeeds keeps the parameters, the port,
the counters and the form of memory and of F; a rule that fails names an address that does not exist. -/

namespace Sys2Proof.Machine

/-- What every rule keeps from the state it starts in to the state it ends in. -/
structure Keeps (s t : State) : Prop where
  cfg : t.cfg = s.cfg
  port : t.port = s.port
  hookCalls : t.hookCalls = s.hookCalls
  cycles : t.cycles = s.cycles
  icount : t.icount = s.icount
  canonical : Memory.wf s.mem = true → Memory.wf t.mem = true
  stored : (∀ x ∈ s.mem, x.1 < s.cfg.memSize) → ∀ x ∈ t.mem, x.1 < t.cfg.memSize
  lowNibble : s.f &&& 0x0F#8 = 0#8 → t.f &&& 0x0F#8 = 0#8
  running : t.isHalted = true → s.isHalted = true

theorem Keeps.refl (s : State) : Keeps s s :=
  ⟨rfl, rfl, rfl, rfl, rfl, id, fun h => h, id, id⟩

theorem Keeps.trans {s t u : State} (h : Keeps s t) (k : Keeps t u) : Keeps s u :=
  ⟨k.cfg.trans h.cfg, k.port.trans h.port, k.hookCalls.trans h.hookCalls, k.cycles.trans h.cycles,
    k.icount.trans h.icount, fun x => k.canonical (h.canonical x), fun x => k.stored (h.stored x),
    fun x => k.lowNibble (h.lowNibble x), fun x => h.running (k.running x)⟩

/-- An update that touches neither memory, F, the run state, the parameters, the port nor a counter. -/
theorem Keeps.of_eq {s t : State} (hc : t.cfg = s.cfg) (hp : t.port = s.port) (hh : t.hookCalls = s.hookCalls)
    (hy : t.cycles = s.cycles) (hi : t.icount = s.icount) (hm : t.mem = s.mem)
    (hf : s.f &&& 0x0F#8 = 0#8 → t.f &&& 0x0F#8 = 0#8) (hr : t.run = s.run) : Keeps s t :=
  ⟨hc, hp, hh, hy, hi, fun h => hm ▸ h, fun h => by rw [hm, hc]; exact h, hf,
    fun h => (State.isHalted_of_run hr) ▸ h⟩

theorem Keeps.setReg (s : State) (r : Reg8) (v : Byte) : Keeps s (s.setReg r v) := by
  cases r <;> exact .of_eq rfl rfl rfl rfl rfl rfl id rfl

theorem Keeps.setPairSp (s : State) (p : PairSp) (v : Word) : Keeps s (s.setPairSp p v) := by
  cases p <;> exact .of_eq rfl rfl rfl rfl rfl rfl id rfl

theorem Keeps.setPairAf (s : State) (p : PairAf) (v : Word) : Keeps s (s.setPairAf p v) := by
  cases p
  case af => exact .of_eq rfl rfl rfl rfl rfl rfl (fun _ => lowNibble_maskF _) rfl
  all_goals exact .of_eq rfl rfl rfl rfl rfl rfl id rfl

theorem Keeps.setHl (s : State) (v : Word) : Keeps s (s.setHl v) := .of_eq rfl rfl rfl rfl rfl rfl id rfl

theorem Keeps.setSp (s : State) (v : Word) : Keeps s (s.setSp v) := .of_eq rfl rfl rfl rfl rfl rfl id rfl

theorem Keeps.setPc (s : State) (v : Word) : Keeps s (s.setPc v) := .of_eq rfl rfl rfl rfl rfl rfl id rfl

theorem Keeps.setIme (s : State) (v : Bool) : Keeps s (s.setIme v) := .of_eq rfl rfl rfl rfl rfl rfl id rfl

theorem Keeps.advance (s : State) (n : Nat) : Keeps s (s.advance n) := .of_eq rfl rfl rfl rfl rfl rfl id rfl

theorem Keeps.modify (s : State) (m : Mode) : Keeps s (s.modify m) := by
  cases m
  case hlInc => exact .setHl s _
  case hlDec => exact .setHl s _
  all_goals exact .refl s

theorem Keeps.withFlags (s : State) (z n h c : Option Bool) : Keeps s (s.withFlags z n h c) :=
  .of_eq rfl rfl rfl rfl rfl rfl (fun e => (State.lowNibble_withFlags s z n h c).trans e) rfl

theorem Keeps.setResult (s : State) (r : Byte) (n h c : Bool) : Keeps s (s.setResult r n h c) :=
  (Keeps.setReg s .a r).trans (.withFlags _ _ _ _ _)

theorem Keeps.sleep (s : State) (k : SleepKind) : Keeps s (s.setRun (.sleeping k)) :=
  ⟨rfl, rfl, rfl, rfl, rfl, id, fun h => h, id, fun h => by simp [State.isHalted] at h⟩

/-- A store at an address that exists. -/
theorem Keeps.setByte {s : State} {x : Word} (hx : s.inRange x = true) (v : Byte) : Keeps s (s.setByte x v) := by
  refine ⟨rfl, rfl, rfl, rfl, rfl, fun h => State.wf_setByte h x v, fun h cell hc => ?_, id, id⟩
  rcases Memory.mem_set hc with rfl | hc
  · simpa [State.inRange] using hx
  · exact h cell hc

theorem Keeps.pushed {s : State} (h1 : s.inRange (s.sp - 1) = true) (h2 : s.inRange (s.sp - 2) = true) (v : Word) :
    Keeps s (s.pushed v) :=
  ((Keeps.setSp s (s.sp - 2)).trans (Keeps.setByte (s := s.setSp (s.sp - 2)) h1 _)).trans
    (Keeps.setByte (s := (s.setSp (s.sp - 2)).setByte (s.sp - 1) (hiByte v)) h2 _)

/-- What the result of a rule says of the state it started in. -/
def RuleOutcome (s : State) : Access State → Prop
  | .ok t => Keeps s t
  | .error x => s.inRange x = false

/-- Reading an operand, then a rule. -/
theorem RuleOutcome.readLoc {s : State} {x : Loc} {k : Byte → Access State} (h : ∀ v, RuleOutcome s (k v)) :
    RuleOutcome s (s.readLoc x >>= k) := by
  cases x with
  | reg r => exact h _
  | atHl =>
    rcases State.read8_cases s s.hl with ⟨_, e⟩ | ⟨hr, e⟩
    · simp only [State.readLoc, e]; exact h _
    · simp only [State.readLoc, e]; exact hr

theorem RuleOutcome.readSrc {s : State} {x : Src} {k : Byte → Access State} (h : ∀ v, RuleOutcome s (k v)) :
    RuleOutcome s (s.readSrc x >>= k) := by
  cases x with
  | loc x => exact RuleOutcome.readLoc h
  | imm v => exact h v

theorem RuleOutcome.read8 {s : State} {x : Word} {k : Byte → Access State} (h : ∀ v, RuleOutcome s (k v)) :
    RuleOutcome s (s.read8 x >>= k) := by
  rcases State.read8_cases s x with ⟨_, e⟩ | ⟨hr, e⟩
  · rw [e]; exact h _
  · rw [e]; exact hr

theorem RuleOutcome.write8 (s : State) (x : Word) (v : Byte) : RuleOutcome s (s.write8 x v) := by
  rcases State.write8_cases s x v with ⟨hr, e⟩ | ⟨hr, e⟩
  · rw [e]; exact Keeps.setByte hr v
  · rw [e]; exact hr

theorem RuleOutcome.writeLoc (s : State) (x : Loc) (v : Byte) : RuleOutcome s (s.writeLoc x v) := by
  cases x with
  | reg r => exact Keeps.setReg s r v
  | atHl => exact RuleOutcome.write8 s s.hl v

/-- A rule, then an update that keeps what rules keep. -/
theorem RuleOutcome.map {s : State} {m : Access State} {g : State → State} (h : RuleOutcome s m)
    (hg : ∀ t, Keeps t (g t)) : RuleOutcome s (m >>= fun t => .ok (g t)) := by
  cases m with
  | ok t => exact Keeps.trans h (hg t)
  | error x => exact h

theorem RuleOutcome.push16 (s : State) (v : Word) : RuleOutcome s (s.push16 v) := by
  rcases State.push16_cases s v with ⟨h1, h2, e⟩ | ⟨h, e⟩ | ⟨_, h, e⟩
  · rw [e]; exact Keeps.pushed h1 h2 v
  · rw [e]; exact h
  · rw [e]; exact h

theorem RuleOutcome.pop16 {s : State} {g : Word → State → State} (hg : ∀ v t, Keeps t (g v t)) :
    RuleOutcome s (s.pop16 >>= fun x => .ok (g x.1 x.2)) := by
  rcases State.pop16_cases s with ⟨_, _, e⟩ | ⟨h, e⟩ | ⟨_, h, e⟩
  · rw [e]; exact (Keeps.setSp s _).trans (hg _ _)
  · rw [e]; exact h
  · rw [e]; exact h

theorem RuleOutcome.write16 (s : State) (x v : Word) : RuleOutcome s (s.write16 x v) := by
  rcases State.write16_cases s x v with ⟨h0, h1, e⟩ | ⟨h, e⟩ | ⟨_, h, e⟩
  · rw [e]
    exact (Keeps.setByte h0 _).trans (Keeps.setByte (s := s.setByte x (loByte v)) h1 _)
  · rw [e]; exact h
  · rw [e]; exact h

theorem aluValue_keeps (op : AluOp) (v : Byte) (s : State) : Keeps s (aluValue op v s) := by
  cases op
  case cp => exact Keeps.withFlags s _ _ _ _
  all_goals exact Keeps.setResult s _ _ _ _

theorem stepLoc_outcome (f : Byte → Stepped) (x : Loc) (s : State) : RuleOutcome s (stepLoc f x s) :=
  RuleOutcome.readLoc fun v => RuleOutcome.map (RuleOutcome.writeLoc s x (f v).r) fun t => Keeps.withFlags t _ _ _ _

theorem shiftLoc_outcome (op : ShiftOp) (x : Loc) (s : State) : RuleOutcome s (shiftLoc op x s) :=
  RuleOutcome.readLoc fun _ => RuleOutcome.map (RuleOutcome.writeLoc s x _) fun t => Keeps.withFlags t _ _ _ _

theorem testLoc_outcome (b : Fin 8) (x : Loc) (s : State) : RuleOutcome s (testLoc b x s) :=
  RuleOutcome.readLoc fun _ => Keeps.withFlags s _ _ _ _

theorem resetLoc_outcome (b : Fin 8) (x : Loc) (s : State) : RuleOutcome s (resetLoc b x s) :=
  RuleOutcome.readLoc fun _ => RuleOutcome.writeLoc s x _

theorem setLoc_outcome (b : Fin 8) (x : Loc) (s : State) : RuleOutcome s (setLoc b x s) :=
  RuleOutcome.readLoc fun _ => RuleOutcome.writeLoc s x _

/-- The sub-table runs one of its four operations (spec/30_encoding.md R111). -/
theorem subTable_cases (sub : Byte) :
    (∃ op x, subTable sub = shiftLoc op x) ∨ (∃ b x, subTable sub = testLoc b x)
    ∨ (∃ b x, subTable sub = resetLoc b x) ∨ (∃ b x, subTable sub = setLoc b x) := by
  by_cases h0 : fieldX sub = 0
  · exact .inl ⟨_, _, funext fun s => if_pos h0⟩
  · by_cases h1 : fieldX sub = 1
    · exact .inr (.inl ⟨_, _, funext fun s => (if_neg h0).trans (if_pos h1)⟩)
    · by_cases h2 : fieldX sub = 2
      · exact .inr (.inr (.inl ⟨_, _, funext fun s => (if_neg h0).trans ((if_neg h1).trans (if_pos h2))⟩))
      · exact .inr (.inr (.inr ⟨_, _, funext fun s => (if_neg h0).trans ((if_neg h1).trans (if_neg h2))⟩))

/-- EVERYTHING A RULE CAN DO, as far as all rules share it: it succeeds and keeps what `Keeps` lists, or it fails at an
address that does not exist. -/
theorem Rule.outcome (r : Rule) (s : State) : RuleOutcome s (r.run s) := by
  cases r with
  | loadReg r x => exact RuleOutcome.readSrc fun v => Keeps.setReg s r v
  | storeHl x => exact RuleOutcome.readSrc fun v => RuleOutcome.write8 s s.hl v
  | loadA m => exact RuleOutcome.read8 fun v => (Keeps.setReg s .a v).trans (.modify _ m)
  | storeA m => exact RuleOutcome.map (RuleOutcome.write8 s (s.address m) s.a) fun t => Keeps.modify t m
  | loadPair p v => exact Keeps.setPairSp s p v
  | storeSp t => exact RuleOutcome.write16 s t s.sp
  | loadSpHl => exact Keeps.setSp s _
  | loadHlSp e => exact (Keeps.setHl s _).trans (.withFlags _ _ _ _ _)
  | alu op x => exact RuleOutcome.readSrc fun v => aluValue_keeps op v s
  | incLoc x => exact stepLoc_outcome inc8 x s
  | decLoc x => exact stepLoc_outcome dec8 x s
  | decimalAdjust => exact (Keeps.setReg s .a _).trans (.withFlags _ _ _ _ _)
  | complementA => exact (Keeps.setReg s .a _).trans (.withFlags _ _ _ _ _)
  | setCarry => exact Keeps.withFlags s _ _ _ _
  | complementCarry => exact Keeps.withFlags s _ _ _ _
  | incPair p => exact Keeps.setPairSp s p _
  | decPair p => exact Keeps.setPairSp s p _
  | addHl p => exact (Keeps.setHl s _).trans (.withFlags _ _ _ _ _)
  | addSp e => exact (Keeps.setSp s _).trans (.withFlags _ _ _ _ _)
  | shiftA op => exact (Keeps.setReg s .a _).trans (.withFlags _ _ _ _ _)
  | shiftLoc op x => exact shiftLoc_outcome op x s
  | testLoc b x => exact testLoc_outcome b x s
  | resetLoc b x => exact resetLoc_outcome b x s
  | setLoc b x => exact setLoc_outcome b x s
  | subTable sub =>
    change RuleOutcome s (Sys2Proof.Machine.subTable sub s)
    rcases subTable_cases sub with ⟨_, _, e⟩ | ⟨_, _, e⟩ | ⟨_, _, e⟩ | ⟨_, _, e⟩ <;> rw [e]
    · exact shiftLoc_outcome _ _ s
    · exact testLoc_outcome _ _ s
    · exact resetLoc_outcome _ _ s
    · exact setLoc_outcome _ _ s
  | jumpRelative e => exact Keeps.setPc s _
  | jump t => exact Keeps.setPc s _
  | jumpHl => exact Keeps.setPc s _
  | pushPair p => exact RuleOutcome.push16 s _
  | popPair p => exact RuleOutcome.pop16 fun v t => Keeps.setPairAf t p v
  | call x => exact RuleOutcome.map (RuleOutcome.push16 s s.pc) fun t => Keeps.setPc t x
  | ret => exact RuleOutcome.pop16 fun v t => Keeps.setPc t v
  | retEnable => exact RuleOutcome.pop16 fun v t => (Keeps.setPc t v).trans (.setIme _ _)
  | nop => exact Keeps.refl s
  | halt => exact Keeps.sleep s _
  | stop _ => exact Keeps.sleep s _
  | setIme b => exact Keeps.setIme s b

/-- All a meaning can answer: the instruction retires, or the step ends in Halted with nothing else changed. -/
theorem performTaken_cases (k : Key) (taken : Bool) (r : Rule) (s : State) :
    (∃ u, r.run (s.advance k.length) = .ok u ∧ Keeps s u ∧ performTaken k taken r.run s = .next (u.retire k taken))
    ∨ ∃ x, r.run (s.advance k.length) = .error x ∧ s.inRange x = false
        ∧ performTaken k taken r.run s = .next (s.halt (.outOfRange x)) := by
  have h := Rule.outcome r (s.advance k.length)
  unfold performTaken
  cases e : r.run (s.advance k.length) with
  | ok u =>
    rw [e] at h
    exact .inl ⟨u, rfl, (Keeps.advance s _).trans h, rfl⟩
  | error x =>
    rw [e] at h
    exact .inr ⟨x, rfl, h, rfl⟩

/-- EVERYTHING `exec` CAN ANSWER: the instruction retires with its key's cost; or an access is out of range and the step
ends in Halted with nothing else changed; or the opcode is illegal and the step ends in Halted with nothing else changed. -/
theorem exec_cases (i : Instr) (s : State) :
    (∃ u taken, Keeps s u ∧ exec i s = .next (u.retire i.key taken))
    ∨ (∃ x, s.inRange x = false ∧ exec i s = .next (s.halt (.outOfRange x)))
    ∨ ∃ op, (shape i).2 = .illegal op ∧ exec i s = .next (s.halt (.unimplementedOpcode op s.pc false)) := by
  rw [exec_eq_shape, ← shape_key]
  cases h : (shape i).2 with
  | always r =>
    rcases performTaken_cases (shape i).1 true r s with ⟨u, _, hk, e⟩ | ⟨x, _, hr, e⟩
    · exact .inl ⟨u, true, hk, e⟩
    · exact .inr (.inl ⟨x, hr, e⟩)
  | onCond cc r =>
    simp only [Shape.run, performIf]
    split
    · rcases performTaken_cases (shape i).1 true r s with ⟨u, _, hk, e⟩ | ⟨x, _, hr, e⟩
      · exact .inl ⟨u, true, hk, e⟩
      · exact .inr (.inl ⟨x, hr, e⟩)
    · exact .inl ⟨s.advance _, false, Keeps.advance s _, rfl⟩
  | illegal op => exact .inr (.inr ⟨op, rfl, rfl⟩)

end Sys2Proof.Machine
end

