-- ==== Sys2Proof/Laws/Engine.lean ====
section
/-! SUPPORT. What a step can do, said once (spec/40_engine.md, spec/60_exceptions.md). -/

namespace Sys2Proof.Machine

@[simp] theorem State.halt_isHalted (s : State) (r : FaultRecord) : (s.halt r).isHalted = true := rfl

/-- A halted state is settled. -/
theorem State.settle_of_halted {s : State} (h : s.isHalted = true) : s.settle = s := by
  simp [State.settle, h]

/-- A state that is not halted settles by the frame check. -/
theorem State.settle_of_not_halted {s : State} (h : s.isHalted = false) : s.settle = s.frameCheck := by
  simp [State.settle, h]

/-- The frame check, below and above the threshold (R138). -/
theorem State.frameCheck_cases (s : State) :
    s.cycles ≤ s.cfg.frameCycles ∧ s.frameCheck = s
    ∨ s.cfg.frameCycles < s.cycles ∧ s.frameCheck = { s.hook with cycles := 0 } := by
  unfold State.frameCheck
  split
  · next h => exact .inr ⟨h, rfl⟩
  · next h => exact .inl ⟨Nat.le_of_not_lt h, rfl⟩

@[simp] theorem State.hook_cfg' (s : State) : s.hook.cfg = s.cfg := rfl

@[simp] theorem State.frameCheck_cfg (s : State) : s.frameCheck.cfg = s.cfg := by
  rcases s.frameCheck_cases with ⟨_, e⟩ | ⟨_, e⟩ <;> rw [e]; rfl

@[simp] theorem State.frameCheck_run (s : State) : s.frameCheck.run = s.run := by
  rcases s.frameCheck_cases with ⟨_, e⟩ | ⟨_, e⟩ <;> rw [e]; rfl

@[simp] theorem State.frameCheck_ime (s : State) : s.frameCheck.ime = s.ime := by
  rcases s.frameCheck_cases with ⟨_, e⟩ | ⟨_, e⟩ <;> rw [e]; rfl

@[simp] theorem State.frameCheck_f (s : State) : s.frameCheck.f = s.f := by
  rcases s.frameCheck_cases with ⟨_, e⟩ | ⟨_, e⟩ <;> rw [e]; rfl

@[simp] theorem State.frameCheck_icount (s : State) : s.frameCheck.icount = s.icount := by
  rcases s.frameCheck_cases with ⟨_, e⟩ | ⟨_, e⟩ <;> rw [e]; rfl

/-- After the frame check the accumulator is not above the threshold. -/
theorem State.frameCheck_cycles_le (s : State) : s.frameCheck.cycles ≤ s.cfg.frameCycles := by
  rcases s.frameCheck_cases with ⟨h, e⟩ | ⟨_, e⟩ <;> rw [e]
  · exact h
  · exact Nat.zero_le _

/-- The hook keeps memory canonical. -/
theorem State.hook_wf {s : State} (h : Memory.wf s.mem = true) : Memory.wf s.hook.mem = true :=
  Memory.wf_draws h _ _

/-- The hook writes bytes of the store only. -/
theorem State.hook_stored {s : State} (h : ∀ x ∈ s.mem, x.1 < s.cfg.memSize) :
    ∀ x ∈ s.hook.mem, x.1 < s.hook.cfg.memSize := by
  intro x hx
  rcases Memory.mem_draws hx with hx | ⟨y, hy, e⟩
  · exact h x hx
  · have := (List.mem_filter.mp hy).2
    rw [e]
    simpa [State.inRange] using this

/-- The hook leaves every byte outside RENDER_WRITES alone (R139). -/
theorem State.hook_byteAt {s : State} {x : Word} (h : x ∉ s.cfg.renderWrites) : s.hook.byteAt x = s.byteAt x := by
  unfold State.byteAt State.hook
  rw [Memory.lookup_draws (draw := Config.hookByte s.hookCalls)]
  intro y hy e
  exact h (BitVec.eq_of_toNat_eq e ▸ (List.mem_filter.mp hy).1)

/-- Every byte after the hook: the call's draw at a stored address of RENDER_WRITES, the byte before elsewhere (R139). -/
theorem State.hook_byteAt_eq (s : State) (x : Word) :
    s.hook.byteAt x =
      if x ∈ s.cfg.renderWrites ∧ s.inRange x = true then Config.hookByte s.hookCalls x.toNat else s.byteAt x := by
  unfold State.byteAt State.hook
  split
  · next h => rw [Memory.lookup_draws_of_mem (draw := Config.hookByte s.hookCalls) (List.mem_filter.mpr h)]; rfl
  · next h =>
    rw [Memory.lookup_draws (draw := Config.hookByte s.hookCalls)]
    intro y hy e
    exact h (BitVec.eq_of_toNat_eq e ▸ List.mem_filter.mp hy)

/-- All an injected call can do (R379). -/
theorem State.injectedCall_cases (s : State) (v : IrqVector) :
    s.inRange (s.sp - 1) = true ∧ s.inRange (s.sp - 2) = true
        ∧ s.injectedCall v
          = { (((s.setIme false).setRun .running).pushed s.pc).setPc v.address with cycles := s.cycles + 20 }
    ∨ ∃ x, s.inRange x = false ∧ s.injectedCall v = s.halt (.outOfRange x) := by
  unfold State.injectedCall
  rcases State.push16_cases ((s.setIme false).setRun .running) s.pc with ⟨h1, h2, e⟩ | ⟨h, e⟩ | ⟨_, h, e⟩
  · exact .inl ⟨h1, h2, by rw [e]; rfl⟩
  · exact .inr ⟨_, h, by rw [e]⟩
  · exact .inr ⟨_, h, by rw [e]⟩

/-- All a running instruction can do: its fetch ends in a fatal condition, or `exec` runs and its state is settled. -/
theorem runInstr_cases (s : State) :
    (∃ r, fetchInstr s = .fatal r ∧ runInstr s = .next (s.halt r))
    ∨ ∃ i, fetchInstr s = .instr i ∧ runInstr s = settleOutcome (exec i s) := by
  unfold runInstr
  cases fetchInstr s with
  | instr i => exact .inr ⟨i, rfl, rfl⟩
  | fatal r => exact .inl ⟨r, rfl, rfl⟩

/-- EVERYTHING A STEP CAN DO, by the run state and the port's request. -/
theorem step_cases (s : State) :
    (∃ r, s.run = .halted r ∧ step s = .fault (.halted r))
    ∨ (s.run = .running ∧ step s = runInstr s.nextBoundary)
    ∨ (∃ v, (s.run = .running ∨ s.run = .sleeping .halt) ∧ s.request = .irq v ∧ s.ime = true
        ∧ step s = .next (s.nextBoundary.injectedCall v).settle)
    ∨ (∃ k, s.run = .sleeping k ∧ s.request ≠ .none ∧ step s = .next s.nextBoundary.wake)
    ∨ (s.run = .sleeping .halt ∧ s.request = .none ∧ step s = .next s.nextBoundary.idle.frameCheck)
    ∨ (s.run = .sleeping .stop ∧ s.request = .none ∧ step s = .next s.nextBoundary) := by
  unfold step coreStep
  cases hr : s.run with
  | halted r => exact .inl ⟨r, rfl, rfl⟩
  | running =>
    cases hq : s.request with
    | none => exact .inr (.inl ⟨rfl, by simp only [stepRunning, hq]⟩)
    | wake => exact .inr (.inl ⟨rfl, by simp only [stepRunning, hq]⟩)
    | irq v =>
      cases hi : s.ime with
      | false => exact .inr (.inl ⟨rfl, by simp [stepRunning, hq, hi]⟩)
      | true => exact .inr (.inr (.inl ⟨v, .inl rfl, rfl, rfl, by simp [stepRunning, hq, hi]⟩))
  | sleeping k =>
    cases k with
    | halt =>
      cases hq : s.request with
      | none => exact .inr (.inr (.inr (.inr (.inl ⟨rfl, rfl, by simp only [stepHaltSleep, hq]⟩))))
      | wake => exact .inr (.inr (.inr (.inl ⟨.halt, rfl, by simp, by simp only [stepHaltSleep, hq]⟩)))
      | irq v =>
        cases hi : s.ime with
        | false => exact .inr (.inr (.inr (.inl ⟨.halt, rfl, by simp, by simp [stepHaltSleep, hq, hi]⟩)))
        | true => exact .inr (.inr (.inl ⟨v, .inr rfl, rfl, rfl, by simp [stepHaltSleep, hq, hi]⟩))
    | stop =>
      cases hq : s.request with
      | none => exact .inr (.inr (.inr (.inr (.inr ⟨rfl, rfl, by simp only [stepStopSleep, hq]⟩))))
      | wake => exact .inr (.inr (.inr (.inl ⟨.stop, rfl, by simp, by simp only [stepStopSleep, hq]⟩)))
      | irq v => exact .inr (.inr (.inr (.inl ⟨.stop, rfl, by simp, by simp only [stepStopSleep, hq]⟩)))

end Sys2Proof.Machine
end

