-- ==== Sys2Proof/Laws/Results.lean ====
section
/-! SUPPORT. From a rule's result to `exec`'s answer, from `exec`'s answer back to the rule's result, and the fetches. -/

namespace Sys2Proof.Machine

/-! Forward: an instruction whose rule succeeds retires; one whose rule fails ends the step in Halted. -/

theorem exec_ok {i : Instr} {k : Key} {taken : Bool} {rule : State → Access State} {s u : State}
    (h : exec i s = performTaken k taken rule s) (hr : rule (s.advance k.length) = .ok u) :
    exec i s = .next (u.retire k taken) := by
  rw [h]
  unfold performTaken
  rw [hr]

theorem exec_error {i : Instr} {k : Key} {taken : Bool} {rule : State → Access State} {s : State} {x : Word}
    (h : exec i s = performTaken k taken rule s) (hr : rule (s.advance k.length) = .error x) :
    exec i s = .next (s.halt (.outOfRange x)) := by
  rw [h]
  unfold performTaken
  rw [hr]

/-- `exec` always answers a next state. -/
theorem exec_next (i : Instr) (s : State) : ∃ t, exec i s = .next t := by
  rcases exec_cases i s with ⟨_, _, _, e⟩ | ⟨_, _, e⟩ | ⟨_, _, e⟩
  · exact ⟨_, e⟩
  · exact ⟨_, e⟩
  · exact ⟨_, e⟩

theorem popPair_ok (p : PairAf) {s : State} (h1 : s.inRange s.sp = true) (h2 : s.inRange (s.sp + 1) = true) :
    popPair p s = .ok ((s.setSp (s.sp + 2)).setPairAf p s.top) := by
  simp only [popPair, State.pop16_ok h1 h2]
  rfl

theorem popPair_error (p : PairAf) {s : State} {x : Word} (h : s.pop16 = .error x) : popPair p s = .error x := by
  simp only [popPair, h]
  rfl

theorem ret_ok {s : State} (h1 : s.inRange s.sp = true) (h2 : s.inRange (s.sp + 1) = true) :
    ret s = .ok ((s.setSp (s.sp + 2)).setPc s.top) := by
  simp only [ret, State.pop16_ok h1 h2]
  rfl

theorem ret_error {s : State} {x : Word} (h : s.pop16 = .error x) : ret s = .error x := by
  simp only [ret, h]
  rfl

theorem retEnable_ok {s : State} (h1 : s.inRange s.sp = true) (h2 : s.inRange (s.sp + 1) = true) :
    retEnable s = .ok (((s.setSp (s.sp + 2)).setPc s.top).setIme true) := by
  simp only [retEnable, State.pop16_ok h1 h2]
  rfl

theorem retEnable_error {s : State} {x : Word} (h : s.pop16 = .error x) : retEnable s = .error x := by
  simp only [retEnable, h]
  rfl

theorem call_ok (t : Word) {s : State} (h1 : s.inRange (s.sp - 1) = true) (h2 : s.inRange (s.sp - 2) = true) :
    call t s = .ok ((s.pushed s.pc).setPc t) := by
  simp only [call, State.push16_ok h1 h2]
  rfl

theorem call_error {t : Word} {s : State} {x : Word} (h : s.push16 s.pc = .error x) : call t s = .error x := by
  simp only [call, h]
  rfl

/-! Fetches. -/

theorem State.fetch8_ok {s : State} (h : s.inRange s.pc = true) :
    s.fetch8 = .ok (s.byteAt s.pc, s.setPc (s.pc + 1)) := by
  simp only [State.fetch8, State.read8_ok h]
  rfl

theorem State.fetch8_error {s : State} (h : s.inRange s.pc = false) : s.fetch8 = .error s.pc := by
  simp only [State.fetch8, State.read8_error h]
  rfl

/-- With the port tied off a running core runs an instruction. -/
theorem step_of_running {s : State} (hr : s.run = .running) (hp : s.cfg.irqPort = false) : step s = runInstr s := by
  have hq : s.request = .none := by simp [State.request, hp]
  have hn : s.nextBoundary = s := by simp [State.nextBoundary, hp]
  simp only [step, coreStep, hr, stepRunning, hq, hn]

theorem settleOutcome_next (t : State) : settleOutcome (.next t) = .next t.settle := rfl

/-! Backward: what an operation that answered has done. -/

/-- A rule's `do` block, one line at a time. -/
theorem access_bind {α β : Type} {a : Access α} {f : α → Access β} {b : β} (h : (a >>= f) = .ok b) :
    ∃ x, a = .ok x ∧ f x = .ok b := by
  cases a with
  | error e => cases h
  | ok x => exact ⟨x, rfl, h⟩

theorem State.of_write8 {s t : State} {x : Word} {v : Byte} (h : s.write8 x v = .ok t) : t = s.setByte x v := by
  rcases State.write8_cases s x v with ⟨_, e⟩ | ⟨_, e⟩ <;> rw [e] at h <;> cases h
  rfl

theorem State.of_writeLoc {s t : State} {x : Loc} {v : Byte} (h : s.writeLoc x v = .ok t) :
    (∃ r, x = .reg r ∧ t = s.setReg r v) ∨ (x = .atHl ∧ t = s.setByte s.hl v) := by
  cases x with
  | reg r => cases h; exact .inl ⟨r, rfl, rfl⟩
  | atHl => exact .inr ⟨rfl, State.of_write8 h⟩

theorem State.of_push16 {s t : State} {v : Word} (h : s.push16 v = .ok t) : t = s.pushed v := by
  rcases State.push16_cases s v with ⟨_, _, e⟩ | ⟨_, e⟩ | ⟨_, _, e⟩ <;> rw [e] at h <;> cases h
  rfl

theorem State.of_pop16 {s t : State} {v : Word} (h : s.pop16 = .ok (v, t)) : t = s.setSp (s.sp + 2) ∧ v = s.top := by
  rcases State.pop16_cases s with ⟨_, _, e⟩ | ⟨_, e⟩ | ⟨_, _, e⟩ <;> rw [e] at h <;> cases h
  exact ⟨rfl, rfl⟩

theorem State.of_write16 {s t : State} {x v : Word} (h : s.write16 x v = .ok t) :
    t = (s.setByte x (loByte v)).setByte (x + 1) (hiByte v) := by
  rcases State.write16_cases s x v with ⟨_, _, e⟩ | ⟨_, e⟩ | ⟨_, _, e⟩ <;> rw [e] at h <;> cases h
  rfl

/-- What led to a state `exec` answered: a rule that succeeded and retired, a condition that did not hold, or a halt. -/
theorem exec_inversion {i : Instr} {s t : State} (h : exec i s = .next t) :
    (∃ r u, ((shape i).2 = .always r ∨ ∃ cc, (shape i).2 = .onCond cc r ∧ s.cond cc = true)
        ∧ r.run (s.advance i.key.length) = .ok u ∧ t = u.retire i.key true)
    ∨ (∃ cc r, (shape i).2 = .onCond cc r ∧ s.cond cc = false ∧ t = (s.advance i.key.length).retire i.key false)
    ∨ ∃ x, t = s.halt x := by
  rw [exec_eq_shape] at h
  rw [← shape_key]
  cases hs : (shape i).2 with
  | always r =>
    rw [hs] at h
    rcases performTaken_cases (shape i).1 true r s with ⟨u, hr, _, e⟩ | ⟨x, _, _, e⟩
    · have h := e.symm.trans h
      cases h
      exact .inl ⟨r, u, .inl rfl, hr, rfl⟩
    · have h := e.symm.trans h
      cases h
      exact .inr (.inr ⟨_, rfl⟩)
  | onCond cc r =>
    rw [hs] at h
    simp only [Shape.run, performIf] at h
    split at h
    · rename_i hc
      rcases performTaken_cases (shape i).1 true r s with ⟨u, hr, _, e⟩ | ⟨x, _, _, e⟩
      · have h := e.symm.trans h
        cases h
        exact .inl ⟨r, u, .inr ⟨cc, rfl, hc⟩, hr, rfl⟩
      · have h := e.symm.trans h
        cases h
        exact .inr (.inr ⟨_, rfl⟩)
    · rename_i hc
      cases h
      exact .inr (.inl ⟨cc, r, rfl, by simpa using hc, rfl⟩)
  | illegal op =>
    rw [hs] at h
    cases h
    exact .inr (.inr ⟨_, rfl⟩)

end Sys2Proof.Machine
end

