-- ==== Sys2Proof/Machine/Report.lean ====
section
/-! DEFINITION. The diagnostic of a fatal condition (spec/10_state.md R44, spec/60_exceptions.md R373), as text. -/

namespace Sys2Proof.Machine

/-- A hexadecimal digit, capitals as in spec/95_test_vectors.md X7 (notes/assumptions/19.md). -/
def hexDigit (n : Nat) : String :=
  ["0", "1", "2", "3", "4", "5", "6", "7", "8", "9", "A", "B", "C", "D", "E", "F"].getD (n % 16) "0"

/-- A byte as `0xNN`. -/
def hexByte (v : Byte) : String := "0x" ++ hexDigit (v.toNat / 16) ++ hexDigit v.toNat

/-- A 16-bit value as `0xMMMM`. -/
def hexWord (v : Word) : String :=
  "0x" ++ hexDigit (v.toNat / 4096) ++ hexDigit (v.toNat / 256) ++ hexDigit (v.toNat / 16) ++ hexDigit v.toNat

/-- The report "unimplemented opcode 0xNN at address 0xMMMM" (R44). The spec gives no text for OutOfRange. -/
def FaultRecord.diagnostic : FaultRecord → Option String
  | .unimplementedOpcode v a _ => some ("unimplemented opcode " ++ hexByte v ++ " at address " ++ hexWord a)
  | .outOfRange _ => none

end Sys2Proof.Machine
end

