-- ==== Sys2Proof/Machine/Assembler.lean ====
section
/-! DEFINITION. Assembler text of an instruction (spec/30_encoding.md R117): the mnemonic, a space, the operands with the
destination first. The rows CB_prefix and illegal_0xNN are no instruction of the assembler and have no text. Immediates and
addresses are written in hexadecimal, displacements as signed decimals (notes/assumptions/20.md). -/

namespace Sys2Proof.Machine

/-- A displacement as a signed decimal. -/
def signedText (e8 : Byte) : String := toString (signed8 e8)

/-- A displacement with its sign always written, as after SP. -/
def offsetText (e8 : Byte) : String := if signed8 e8 < 0 then signedText e8 else "+" ++ signedText e8

/-- The assembler text of an instruction. -/
def assemblerText : Instr → Option String
  | .nop => some "NOP"
  | .ld_bc_d16 d16 => some ("LD BC, " ++ hexWord d16)
  | .ld_at_bc_a => some "LD (BC), A"
  | .inc_bc => some "INC BC"
  | .inc_b => some "INC B"
  | .dec_b => some "DEC B"
  | .ld_b_d8 d8 => some ("LD B, " ++ hexByte d8)
  | .rlca => some "RLCA"
  | .ld_at_a16_sp a16 => some ("LD (" ++ hexWord a16 ++ "), SP")
  | .add_hl_bc => some "ADD HL, BC"
  | .ld_a_at_bc => some "LD A, (BC)"
  | .dec_bc => some "DEC BC"
  | .inc_c => some "INC C"
  | .dec_c => some "DEC C"
  | .ld_c_d8 d8 => some ("LD C, " ++ hexByte d8)
  | .rrca => some "RRCA"
  | .stop _ => some "STOP"
  | .ld_de_d16 d16 => some ("LD DE, " ++ hexWord d16)
  | .ld_at_de_a => some "LD (DE), A"
  | .inc_de => some "INC DE"
  | .inc_d => some "INC D"
  | .dec_d => some "DEC D"
  | .ld_d_d8 d8 => some ("LD D, " ++ hexByte d8)
  | .rla => some "RLA"
  | .jr_e8 e8 => some ("JR " ++ signedText e8)
  | .add_hl_de => some "ADD HL, DE"
  | .ld_a_at_de => some "LD A, (DE)"
  | .dec_de => some "DEC DE"
  | .inc_e => some "INC E"
  | .dec_e => some "DEC E"
  | .ld_e_d8 d8 => some ("LD E, " ++ hexByte d8)
  | .rra => some "RRA"
  | .jr_nz_e8 e8 => some ("JR NZ, " ++ signedText e8)
  | .ld_hl_d16 d16 => some ("LD HL, " ++ hexWord d16)
  | .ld_at_hl_inc_a => some "LD (HL+), A"
  | .inc_hl => some "INC HL"
  | .inc_h => some "INC H"
  | .dec_h => some "DEC H"
  | .ld_h_d8 d8 => some ("LD H, " ++ hexByte d8)
  | .daa => some "DAA"
  | .jr_z_e8 e8 => some ("JR Z, " ++ signedText e8)
  | .add_hl_hl => some "ADD HL, HL"
  | .ld_a_at_hl_inc => some "LD A, (HL+)"
  | .dec_hl => some "DEC HL"
  | .inc_l => some "INC L"
  | .dec_l => some "DEC L"
  | .ld_l_d8 d8 => some ("LD L, " ++ hexByte d8)
  | .cpl => some "CPL"
  | .jr_nc_e8 e8 => some ("JR NC, " ++ signedText e8)
  | .ld_sp_d16 d16 => some ("LD SP, " ++ hexWord d16)
  | .ld_at_hl_dec_a => some "LD (HL-), A"
  | .inc_sp => some "INC SP"
  | .inc_at_hl => some "INC (HL)"
  | .dec_at_hl => some "DEC (HL)"
  | .ld_at_hl_d8 d8 => some ("LD (HL), " ++ hexByte d8)
  | .scf => some "SCF"
  | .jr_c_e8 e8 => some ("JR C, " ++ signedText e8)
  | .add_hl_sp => some "ADD HL, SP"
  | .ld_a_at_hl_dec => some "LD A, (HL-)"
  | .dec_sp => some "DEC SP"
  | .inc_a => some "INC A"
  | .dec_a => some "DEC A"
  | .ld_a_d8 d8 => some ("LD A, " ++ hexByte d8)
  | .ccf => some "CCF"
  | .ld_b_b => some "LD B, B"
  | .ld_b_c => some "LD B, C"
  | .ld_b_d => some "LD B, D"
  | .ld_b_e => some "LD B, E"
  | .ld_b_h => some "LD B, H"
  | .ld_b_l => some "LD B, L"
  | .ld_b_at_hl => some "LD B, (HL)"
  | .ld_b_a => some "LD B, A"
  | .ld_c_b => some "LD C, B"
  | .ld_c_c => some "LD C, C"
  | .ld_c_d => some "LD C, D"
  | .ld_c_e => some "LD C, E"
  | .ld_c_h => some "LD C, H"
  | .ld_c_l => some "LD C, L"
  | .ld_c_at_hl => some "LD C, (HL)"
  | .ld_c_a => some "LD C, A"
  | .ld_d_b => some "LD D, B"
  | .ld_d_c => some "LD D, C"
  | .ld_d_d => some "LD D, D"
  | .ld_d_e => some "LD D, E"
  | .ld_d_h => some "LD D, H"
  | .ld_d_l => some "LD D, L"
  | .ld_d_at_hl => some "LD D, (HL)"
  | .ld_d_a => some "LD D, A"
  | .ld_e_b => some "LD E, B"
  | .ld_e_c => some "LD E, C"
  | .ld_e_d => some "LD E, D"
  | .ld_e_e => some "LD E, E"
  | .ld_e_h => some "LD E, H"
  | .ld_e_l => some "LD E, L"
  | .ld_e_at_hl => some "LD E, (HL)"
  | .ld_e_a => some "LD E, A"
  | .ld_h_b => some "LD H, B"
  | .ld_h_c => some "LD H, C"
  | .ld_h_d => some "LD H, D"
  | .ld_h_e => some "LD H, E"
  | .ld_h_h => some "LD H, H"
  | .ld_h_l => some "LD H, L"
  | .ld_h_at_hl => some "LD H, (HL)"
  | .ld_h_a => some "LD H, A"
  | .ld_l_b => some "LD L, B"
  | .ld_l_c => some "LD L, C"
  | .ld_l_d => some "LD L, D"
  | .ld_l_e => some "LD L, E"
  | .ld_l_h => some "LD L, H"
  | .ld_l_l => some "LD L, L"
  | .ld_l_at_hl => some "LD L, (HL)"
  | .ld_l_a => some "LD L, A"
  | .ld_at_hl_b => some "LD (HL), B"
  | .ld_at_hl_c => some "LD (HL), C"
  | .ld_at_hl_d => some "LD (HL), D"
  | .ld_at_hl_e => some "LD (HL), E"
  | .ld_at_hl_h => some "LD (HL), H"
  | .ld_at_hl_l => some "LD (HL), L"
  | .halt => some "HALT"
  | .ld_at_hl_a => some "LD (HL), A"
  | .ld_a_b => some "LD A, B"
  | .ld_a_c => some "LD A, C"
  | .ld_a_d => some "LD A, D"
  | .ld_a_e => some "LD A, E"
  | .ld_a_h => some "LD A, H"
  | .ld_a_l => some "LD A, L"
  | .ld_a_at_hl => some "LD A, (HL)"
  | .ld_a_a => some "LD A, A"
  | .add_a_b => some "ADD A, B"
  | .add_a_c => some "ADD A, C"
  | .add_a_d => some "ADD A, D"
  | .add_a_e => some "ADD A, E"
  | .add_a_h => some "ADD A, H"
  | .add_a_l => some "ADD A, L"
  | .add_a_at_hl => some "ADD A, (HL)"
  | .add_a_a => some "ADD A, A"
  | .adc_a_b => some "ADC A, B"
  | .adc_a_c => some "ADC A, C"
  | .adc_a_d => some "ADC A, D"
  | .adc_a_e => some "ADC A, E"
  | .adc_a_h => some "ADC A, H"
  | .adc_a_l => some "ADC A, L"
  | .adc_a_at_hl => some "ADC A, (HL)"
  | .adc_a_a => some "ADC A, A"
  | .sub_b => some "SUB B"
  | .sub_c => some "SUB C"
  | .sub_d => some "SUB D"
  | .sub_e => some "SUB E"
  | .sub_h => some "SUB H"
  | .sub_l => some "SUB L"
  | .sub_at_hl => some "SUB (HL)"
  | .sub_a => some "SUB A"
  | .sbc_a_b => some "SBC A, B"
  | .sbc_a_c => some "SBC A, C"
  | .sbc_a_d => some "SBC A, D"
  | .sbc_a_e => some "SBC A, E"
  | .sbc_a_h => some "SBC A, H"
  | .sbc_a_l => some "SBC A, L"
  | .sbc_a_at_hl => some "SBC A, (HL)"
  | .sbc_a_a => some "SBC A, A"
  | .and_b => some "AND B"
  | .and_c => some "AND C"
  | .and_d => some "AND D"
  | .and_e => some "AND E"
  | .and_h => some "AND H"
  | .and_l => some "AND L"
  | .and_at_hl => some "AND (HL)"
  | .and_a => some "AND A"
  | .xor_b => some "XOR B"
  | .xor_c => some "XOR C"
  | .xor_d => some "XOR D"
  | .xor_e => some "XOR E"
  | .xor_h => some "XOR H"
  | .xor_l => some "XOR L"
  | .xor_at_hl => some "XOR (HL)"
  | .xor_a => some "XOR A"
  | .or_b => some "OR B"
  | .or_c => some "OR C"
  | .or_d => some "OR D"
  | .or_e => some "OR E"
  | .or_h => some "OR H"
  | .or_l => some "OR L"
  | .or_at_hl => some "OR (HL)"
  | .or_a => some "OR A"
  | .cp_b => some "CP B"
  | .cp_c => some "CP C"
  | .cp_d => some "CP D"
  | .cp_e => some "CP E"
  | .cp_h => some "CP H"
  | .cp_l => some "CP L"
  | .cp_at_hl => some "CP (HL)"
  | .cp_a => some "CP A"
  | .ret_nz => some "RET NZ"
  | .pop_bc => some "POP BC"
  | .jp_nz_a16 a16 => some ("JP NZ, " ++ hexWord a16)
  | .jp_a16 a16 => some ("JP " ++ hexWord a16)
  | .call_nz_a16 a16 => some ("CALL NZ, " ++ hexWord a16)
  | .push_bc => some "PUSH BC"
  | .add_a_d8 d8 => some ("ADD A, " ++ hexByte d8)
  | .rst_00 => some "RST 0x00"
  | .ret_z => some "RET Z"
  | .ret => some "RET"
  | .jp_z_a16 a16 => some ("JP Z, " ++ hexWord a16)
  | .cb_prefix _ => none
  | .call_z_a16 a16 => some ("CALL Z, " ++ hexWord a16)
  | .call_a16 a16 => some ("CALL " ++ hexWord a16)
  | .adc_a_d8 d8 => some ("ADC A, " ++ hexByte d8)
  | .rst_08 => some "RST 0x08"
  | .ret_nc => some "RET NC"
  | .pop_de => some "POP DE"
  | .jp_nc_a16 a16 => some ("JP NC, " ++ hexWord a16)
  | .illegal_d3 => none
  | .call_nc_a16 a16 => some ("CALL NC, " ++ hexWord a16)
  | .push_de => some "PUSH DE"
  | .sub_d8 d8 => some ("SUB " ++ hexByte d8)
  | .rst_10 => some "RST 0x10"
  | .ret_c => some "RET C"
  | .reti => some "RETI"
  | .jp_c_a16 a16 => some ("JP C, " ++ hexWord a16)
  | .illegal_db => none
  | .call_c_a16 a16 => some ("CALL C, " ++ hexWord a16)
  | .illegal_dd => none
  | .sbc_a_d8 d8 => some ("SBC A, " ++ hexByte d8)
  | .rst_18 => some "RST 0x18"
  | .ldh_at_a8_a a8 => some ("LDH (" ++ hexByte a8 ++ "), A")
  | .pop_hl => some "POP HL"
  | .ld_at_c_a => some "LD (C), A"
  | .illegal_e3 => none
  | .illegal_e4 => none
  | .push_hl => some "PUSH HL"
  | .and_d8 d8 => some ("AND " ++ hexByte d8)
  | .rst_20 => some "RST 0x20"
  | .add_sp_e8 e8 => some ("ADD SP, " ++ signedText e8)
  | .jp_hl => some "JP HL"
  | .ld_at_a16_a a16 => some ("LD (" ++ hexWord a16 ++ "), A")
  | .illegal_eb => none
  | .illegal_ec => none
  | .illegal_ed => none
  | .xor_d8 d8 => some ("XOR " ++ hexByte d8)
  | .rst_28 => some "RST 0x28"
  | .ldh_a_at_a8 a8 => some ("LDH A, (" ++ hexByte a8 ++ ")")
  | .pop_af => some "POP AF"
  | .ld_a_at_c => some "LD A, (C)"
  | .di => some "DI"
  | .illegal_f4 => none
  | .push_af => some "PUSH AF"
  | .or_d8 d8 => some ("OR " ++ hexByte d8)
  | .rst_30 => some "RST 0x30"
  | .ld_hl_sp_e8 e8 => some ("LD HL, SP" ++ offsetText e8)
  | .ld_sp_hl => some "LD SP, HL"
  | .ld_a_at_a16 a16 => some ("LD A, (" ++ hexWord a16 ++ ")")
  | .ei => some "EI"
  | .illegal_fc => none
  | .illegal_fd => none
  | .cp_d8 d8 => some ("CP " ++ hexByte d8)
  | .rst_38 => some "RST 0x38"
  | .rlc_b => some "RLC B"
  | .rlc_c => some "RLC C"
  | .rlc_d => some "RLC D"
  | .rlc_e => some "RLC E"
  | .rlc_h => some "RLC H"
  | .rlc_l => some "RLC L"
  | .rlc_at_hl => some "RLC (HL)"
  | .rlc_a => some "RLC A"
  | .rrc_b => some "RRC B"
  | .rrc_c => some "RRC C"
  | .rrc_d => some "RRC D"
  | .rrc_e => some "RRC E"
  | .rrc_h => some "RRC H"
  | .rrc_l => some "RRC L"
  | .rrc_at_hl => some "RRC (HL)"
  | .rrc_a => some "RRC A"
  | .rl_b => some "RL B"
  | .rl_c => some "RL C"
  | .rl_d => some "RL D"
  | .rl_e => some "RL E"
  | .rl_h => some "RL H"
  | .rl_l => some "RL L"
  | .rl_at_hl => some "RL (HL)"
  | .rl_a => some "RL A"
  | .rr_b => some "RR B"
  | .rr_c => some "RR C"
  | .rr_d => some "RR D"
  | .rr_e => some "RR E"
  | .rr_h => some "RR H"
  | .rr_l => some "RR L"
  | .rr_at_hl => some "RR (HL)"
  | .rr_a => some "RR A"
  | .sla_b => some "SLA B"
  | .sla_c => some "SLA C"
  | .sla_d => some "SLA D"
  | .sla_e => some "SLA E"
  | .sla_h => some "SLA H"
  | .sla_l => some "SLA L"
  | .sla_at_hl => some "SLA (HL)"
  | .sla_a => some "SLA A"
  | .sra_b => some "SRA B"
  | .sra_c => some "SRA C"
  | .sra_d => some "SRA D"
  | .sra_e => some "SRA E"
  | .sra_h => some "SRA H"
  | .sra_l => some "SRA L"
  | .sra_at_hl => some "SRA (HL)"
  | .sra_a => some "SRA A"
  | .swap_b => some "SWAP B"
  | .swap_c => some "SWAP C"
  | .swap_d => some "SWAP D"
  | .swap_e => some "SWAP E"
  | .swap_h => some "SWAP H"
  | .swap_l => some "SWAP L"
  | .swap_at_hl => some "SWAP (HL)"
  | .swap_a => some "SWAP A"
  | .srl_b => some "SRL B"
  | .srl_c => some "SRL C"
  | .srl_d => some "SRL D"
  | .srl_e => some "SRL E"
  | .srl_h => some "SRL H"
  | .srl_l => some "SRL L"
  | .srl_at_hl => some "SRL (HL)"
  | .srl_a => some "SRL A"
  | .bit_0_b => some "BIT 0, B"
  | .bit_0_c => some "BIT 0, C"
  | .bit_0_d => some "BIT 0, D"
  | .bit_0_e => some "BIT 0, E"
  | .bit_0_h => some "BIT 0, H"
  | .bit_0_l => some "BIT 0, L"
  | .bit_0_at_hl => some "BIT 0, (HL)"
  | .bit_0_a => some "BIT 0, A"
  | .bit_1_b => some "BIT 1, B"
  | .bit_1_c => some "BIT 1, C"
  | .bit_1_d => some "BIT 1, D"
  | .bit_1_e => some "BIT 1, E"
  | .bit_1_h => some "BIT 1, H"
  | .bit_1_l => some "BIT 1, L"
  | .bit_1_at_hl => some "BIT 1, (HL)"
  | .bit_1_a => some "BIT 1, A"
  | .bit_2_b => some "BIT 2, B"
  | .bit_2_c => some "BIT 2, C"
  | .bit_2_d => some "BIT 2, D"
  | .bit_2_e => some "BIT 2, E"
  | .bit_2_h => some "BIT 2, H"
  | .bit_2_l => some "BIT 2, L"
  | .bit_2_at_hl => some "BIT 2, (HL)"
  | .bit_2_a => some "BIT 2, A"
  | .bit_3_b => some "BIT 3, B"
  | .bit_3_c => some "BIT 3, C"
  | .bit_3_d => some "BIT 3, D"
  | .bit_3_e => some "BIT 3, E"
  | .bit_3_h => some "BIT 3, H"
  | .bit_3_l => some "BIT 3, L"
  | .bit_3_at_hl => some "BIT 3, (HL)"
  | .bit_3_a => some "BIT 3, A"
  | .bit_4_b => some "BIT 4, B"
  | .bit_4_c => some "BIT 4, C"
  | .bit_4_d => some "BIT 4, D"
  | .bit_4_e => some "BIT 4, E"
  | .bit_4_h => some "BIT 4, H"
  | .bit_4_l => some "BIT 4, L"
  | .bit_4_at_hl => some "BIT 4, (HL)"
  | .bit_4_a => some "BIT 4, A"
  | .bit_5_b => some "BIT 5, B"
  | .bit_5_c => some "BIT 5, C"
  | .bit_5_d => some "BIT 5, D"
  | .bit_5_e => some "BIT 5, E"
  | .bit_5_h => some "BIT 5, H"
  | .bit_5_l => some "BIT 5, L"
  | .bit_5_at_hl => some "BIT 5, (HL)"
  | .bit_5_a => some "BIT 5, A"
  | .bit_6_b => some "BIT 6, B"
  | .bit_6_c => some "BIT 6, C"
  | .bit_6_d => some "BIT 6, D"
  | .bit_6_e => some "BIT 6, E"
  | .bit_6_h => some "BIT 6, H"
  | .bit_6_l => some "BIT 6, L"
  | .bit_6_at_hl => some "BIT 6, (HL)"
  | .bit_6_a => some "BIT 6, A"
  | .bit_7_b => some "BIT 7, B"
  | .bit_7_c => some "BIT 7, C"
  | .bit_7_d => some "BIT 7, D"
  | .bit_7_e => some "BIT 7, E"
  | .bit_7_h => some "BIT 7, H"
  | .bit_7_l => some "BIT 7, L"
  | .bit_7_at_hl => some "BIT 7, (HL)"
  | .bit_7_a => some "BIT 7, A"
  | .res_0_b => some "RES 0, B"
  | .res_0_c => some "RES 0, C"
  | .res_0_d => some "RES 0, D"
  | .res_0_e => some "RES 0, E"
  | .res_0_h => some "RES 0, H"
  | .res_0_l => some "RES 0, L"
  | .res_0_at_hl => some "RES 0, (HL)"
  | .res_0_a => some "RES 0, A"
  | .res_1_b => some "RES 1, B"
  | .res_1_c => some "RES 1, C"
  | .res_1_d => some "RES 1, D"
  | .res_1_e => some "RES 1, E"
  | .res_1_h => some "RES 1, H"
  | .res_1_l => some "RES 1, L"
  | .res_1_at_hl => some "RES 1, (HL)"
  | .res_1_a => some "RES 1, A"
  | .res_2_b => some "RES 2, B"
  | .res_2_c => some "RES 2, C"
  | .res_2_d => some "RES 2, D"
  | .res_2_e => some "RES 2, E"
  | .res_2_h => some "RES 2, H"
  | .res_2_l => some "RES 2, L"
  | .res_2_at_hl => some "RES 2, (HL)"
  | .res_2_a => some "RES 2, A"
  | .res_3_b => some "RES 3, B"
  | .res_3_c => some "RES 3, C"
  | .res_3_d => some "RES 3, D"
  | .res_3_e => some "RES 3, E"
  | .res_3_h => some "RES 3, H"
  | .res_3_l => some "RES 3, L"
  | .res_3_at_hl => some "RES 3, (HL)"
  | .res_3_a => some "RES 3, A"
  | .res_4_b => some "RES 4, B"
  | .res_4_c => some "RES 4, C"
  | .res_4_d => some "RES 4, D"
  | .res_4_e => some "RES 4, E"
  | .res_4_h => some "RES 4, H"
  | .res_4_l => some "RES 4, L"
  | .res_4_at_hl => some "RES 4, (HL)"
  | .res_4_a => some "RES 4, A"
  | .res_5_b => some "RES 5, B"
  | .res_5_c => some "RES 5, C"
  | .res_5_d => some "RES 5, D"
  | .res_5_e => some "RES 5, E"
  | .res_5_h => some "RES 5, H"
  | .res_5_l => some "RES 5, L"
  | .res_5_at_hl => some "RES 5, (HL)"
  | .res_5_a => some "RES 5, A"
  | .res_6_b => some "RES 6, B"
  | .res_6_c => some "RES 6, C"
  | .res_6_d => some "RES 6, D"
  | .res_6_e => some "RES 6, E"
  | .res_6_h => some "RES 6, H"
  | .res_6_l => some "RES 6, L"
  | .res_6_at_hl => some "RES 6, (HL)"
  | .res_6_a => some "RES 6, A"
  | .res_7_b => some "RES 7, B"
  | .res_7_c => some "RES 7, C"
  | .res_7_d => some "RES 7, D"
  | .res_7_e => some "RES 7, E"
  | .res_7_h => some "RES 7, H"
  | .res_7_l => some "RES 7, L"
  | .res_7_at_hl => some "RES 7, (HL)"
  | .res_7_a => some "RES 7, A"
  | .set_0_b => some "SET 0, B"
  | .set_0_c => some "SET 0, C"
  | .set_0_d => some "SET 0, D"
  | .set_0_e => some "SET 0, E"
  | .set_0_h => some "SET 0, H"
  | .set_0_l => some "SET 0, L"
  | .set_0_at_hl => some "SET 0, (HL)"
  | .set_0_a => some "SET 0, A"
  | .set_1_b => some "SET 1, B"
  | .set_1_c => some "SET 1, C"
  | .set_1_d => some "SET 1, D"
  | .set_1_e => some "SET 1, E"
  | .set_1_h => some "SET 1, H"
  | .set_1_l => some "SET 1, L"
  | .set_1_at_hl => some "SET 1, (HL)"
  | .set_1_a => some "SET 1, A"
  | .set_2_b => some "SET 2, B"
  | .set_2_c => some "SET 2, C"
  | .set_2_d => some "SET 2, D"
  | .set_2_e => some "SET 2, E"
  | .set_2_h => some "SET 2, H"
  | .set_2_l => some "SET 2, L"
  | .set_2_at_hl => some "SET 2, (HL)"
  | .set_2_a => some "SET 2, A"
  | .set_3_b => some "SET 3, B"
  | .set_3_c => some "SET 3, C"
  | .set_3_d => some "SET 3, D"
  | .set_3_e => some "SET 3, E"
  | .set_3_h => some "SET 3, H"
  | .set_3_l => some "SET 3, L"
  | .set_3_at_hl => some "SET 3, (HL)"
  | .set_3_a => some "SET 3, A"
  | .set_4_b => some "SET 4, B"
  | .set_4_c => some "SET 4, C"
  | .set_4_d => some "SET 4, D"
  | .set_4_e => some "SET 4, E"
  | .set_4_h => some "SET 4, H"
  | .set_4_l => some "SET 4, L"
  | .set_4_at_hl => some "SET 4, (HL)"
  | .set_4_a => some "SET 4, A"
  | .set_5_b => some "SET 5, B"
  | .set_5_c => some "SET 5, C"
  | .set_5_d => some "SET 5, D"
  | .set_5_e => some "SET 5, E"
  | .set_5_h => some "SET 5, H"
  | .set_5_l => some "SET 5, L"
  | .set_5_at_hl => some "SET 5, (HL)"
  | .set_5_a => some "SET 5, A"
  | .set_6_b => some "SET 6, B"
  | .set_6_c => some "SET 6, C"
  | .set_6_d => some "SET 6, D"
  | .set_6_e => some "SET 6, E"
  | .set_6_h => some "SET 6, H"
  | .set_6_l => some "SET 6, L"
  | .set_6_at_hl => some "SET 6, (HL)"
  | .set_6_a => some "SET 6, A"
  | .set_7_b => some "SET 7, B"
  | .set_7_c => some "SET 7, C"
  | .set_7_d => some "SET 7, D"
  | .set_7_e => some "SET 7, E"
  | .set_7_h => some "SET 7, H"
  | .set_7_l => some "SET 7, L"
  | .set_7_at_hl => some "SET 7, (HL)"
  | .set_7_a => some "SET 7, A"

end Sys2Proof.Machine
end

