-- ==== Sys2Proof/Tests/Slice0.lean ====
section
/-! SUPPORT. Small tests: the well-formedness smoke, words of the spec's encodings, one-step vectors of
spec/95_test_vectors.md, and a witness for the hypotheses of each statement that has any. -/

namespace Sys2Proof.Tests

open Sys2Proof.Machine Sys2Proof.Claim

/-- A state with bytes at its PC. -/
def placed (s : State) (bytes : List Byte) : State := s.storeBytes s.pc bytes

/-- A view of the state a step leads to. -/
def after {α : Type} (s : State) (f : State → α) : Option α :=
  match step s with
  | .next t => some (f t)
  | .fault _ => none
  | .refused _ => none

/-- The state after reset in a machine with this MEM_SIZE. -/
def small (n : Nat) : State := { State.reset with cfg := { Params.default with memSize := n } }

/-- The state after reset with the injection port connected and presenting this request first. -/
def presented (q : PortRequest) : State :=
  { State.reset with port := [q], cfg := { Params.default with irqPort := true } }

/-! Well-formedness: the one check of WellFormed.lean, and a term it refuses. -/

theorem test_wellFormed_refuses_the_prefix_row : (Instr.cb_prefix 0x37).wellFormed = false := by decide

theorem test_wellFormed_accepts_the_rows_of_its_words : (Instr.swap_a).wellFormed = true := by decide

theorem test_decode_of_prefix_words_is_the_sub_table_row : decode [0xCB, 0x37] = .ok (.swap_a, []) := rfl

/-! Words written out bit by bit from spec/30_encoding.md and spec/41 to 47. -/

/-- PUSH rr is 11 p 0 101, p = 1 for DE (R164). -/
theorem test_word_push_de : decode [0b11010101] = .ok (.push_de, []) := rfl

/-- POP rr is 11 p 0 001, p = 3 for AF (R166). -/
theorem test_word_pop_af : decode [0b11110001] = .ok (.pop_af, []) := rfl

/-- CALL cc,a16 is 110 cc 100, cc = 2 for NC, the low byte first (R168, R107). -/
theorem test_word_call_nc : decode [0b11010100, 0x34, 0x12] = .ok (.call_nc_a16 0x1234, []) := rfl

/-- RST t is 11 t 111, t = 7 for 0x38 (R172). -/
theorem test_word_rst_38 : decode [0b11111111] = .ok (.rst_38, []) := rfl

/-- JR cc,e8 is 001 cc 000, cc = 3 for C (R191). -/
theorem test_word_jr_c : decode [0b00111000, 0b11111110] = .ok (.jr_c_e8 0xFE, []) := rfl

/-- JP cc,a16 is 110 cc 010, cc = 1 for Z (R193). -/
theorem test_word_jp_z : decode [0b11001010, 0x00, 0x80] = .ok (.jp_z_a16 0x8000, []) := rfl

/-- ALU A,r is 10 y z, y = 2 for SUB, z = 6 for (HL) (R212). -/
theorem test_word_sub_at_hl : decode [0b10010110] = .ok (.sub_at_hl, []) := rfl

/-- ALU A,d8 is 11 y 110, y = 7 for CP (R212). -/
theorem test_word_cp_d8 : decode [0b11111110, 0x42] = .ok (.cp_d8 0x42, []) := rfl

/-- DEC r is 00 y 101, y = 6 for (HL) (R226). -/
theorem test_word_dec_at_hl : decode [0b00110101] = .ok (.dec_at_hl, []) := rfl

/-- INC rr is 00 p 0 011, p = 2 for HL (R251). -/
theorem test_word_inc_hl : decode [0b00100011] = .ok (.inc_hl, []) := rfl

/-- ADD HL,rr is 00 p 1 001, p = 1 for DE (R253). -/
theorem test_word_add_hl_de : decode [0b00011001] = .ok (.add_hl_de, []) := rfl

/-- LD r,r' is 01 y z, y = 4 for H, z = 3 for E (R270). -/
theorem test_word_ld_h_e : decode [0b01100011] = .ok (.ld_h_e, []) := rfl

/-- LD rr,d16 is 00 p 0 001, p = 3 for SP (R289). -/
theorem test_word_ld_sp_d16 : decode [0b00110001, 0xFE, 0xCF] = .ok (.ld_sp_d16 0xCFFE, []) := rfl

/-- The sub-table's 00 y z, y = 5 for SRA, z = 0 for B (R320). -/
theorem test_word_sra_b : decode [0xCB, 0b00101000] = .ok (.sra_b, []) := rfl

/-- The sub-table's 10 y z, y = 3, z = 7 for A (R324). -/
theorem test_word_res_3_a : decode [0xCB, 0b10011111] = .ok (.res_3_a, []) := rfl

/-- EI is 11111011 (R354). -/
theorem test_word_ei : decode [0b11111011] = .ok (.ei, []) := rfl

/-- An instruction that ends before its operand is refused by name. -/
theorem test_decode_refuses_a_short_word : decode [0xC3, 0x00] = .error .noOperand := rfl

/-- The table's numbering: byte 0 of the word is the first byte (notes/assumptions/9.md). -/
theorem test_table_word_ld_bc_d16 : decodeTableWord 24 0x123401 = some (.ld_bc_d16 0x1234) := by decide

/-- A row of the sub-table has the prefix in its high byte in the table's numbering (notes/assumptions/9.md). -/
theorem test_table_word_swap_a : decodeTableWord 16 0xCB37 = some .swap_a := by decide

/-! One-step vectors of spec/95_test_vectors.md. -/

/-- VE1: NOP at the top of memory (spec/95_test_vectors.md). -/
theorem test_ve1_nop_at_the_top_of_memory :
    after (placed { State.reset with pc := 0xFFFF } [0x00]) (fun t => (t.pc, t.cycles))
      = some (0x0000, 4) := by
  decide

/-- VE2: LD A,d8 whose operand wraps (spec/95_test_vectors.md). -/
theorem test_ve2_ld_a_d8_whose_operand_wraps :
    after ((placed { State.reset with pc := 0xFFFF } [0x3E]).setByte 0x0000 0x77) (fun t => (t.a, t.pc))
      = some (0x77, 0x0001) := by
  decide

/-- VE4: illegal opcode 0xFD with a nonzero cycle count (spec/95_test_vectors.md). -/
theorem test_ve4_illegal_opcode_0xfd_with_a_nonzero_cycle :
    after (placed { State.reset with cycles := 1000, icount := 7 } [0xFD]) (fun t => (t.run, t.cycles))
      = some (.halted (.unimplementedOpcode 0xFD 0x0100 false), 1000) := by
  decide

/-- VE5: opcode fetch at or above MEM_SIZE (spec/95_test_vectors.md). -/
theorem test_ve5_opcode_fetch_at_or_above_mem_size :
    after ({ State.reset with pc := 0x8000, cfg := { Params.default with memSize := 0x8000 } }) (fun t => t.run)
      = some (.halted (.outOfRange 0x8000)) := by
  decide

/-- VE6: operand fetch beyond MEM_SIZE (spec/95_test_vectors.md). -/
theorem test_ve6_operand_fetch_beyond_mem_size :
    after (placed { State.reset with pc := 0x7FFF, cfg := { Params.default with memSize := 0x8000 } } [0x3E]) (fun t => t.run)
      = some (.halted (.outOfRange 0x8000)) := by
  decide

/-- VE7: LD (a16),A beyond MEM_SIZE (precise: PC and memory unchanged) (spec/95_test_vectors.md). -/
theorem test_ve7_ld_a16_a_beyond_mem_size_precise :
    after (placed { State.reset with a := 0x42, cfg := { Params.default with memSize := 0x8000 } } [0xEA, 0x00, 0x90]) (fun t => (t.run, t.pc))
      = some (.halted (.outOfRange 0x9000), 0x0100) := by
  decide

/-- VE8: frame check not passed: cycles reaches FRAME_CYCLES exactly (spec/95_test_vectors.md). -/
theorem test_ve8_frame_check_not_passed :
    after (placed { State.reset with cycles := 70220 } [0x00]) (fun t => t.cycles)
      = some (70224) := by
  decide

/-- VE9: frame check passed: cycles exceeds FRAME_CYCLES (spec/95_test_vectors.md). -/
theorem test_ve9_frame_check_passed :
    after (placed { State.reset with cycles := 70221 } [0x00]) (fun t => t.cycles)
      = some (0) := by
  decide

/-- VE10: frame check with FRAME_CYCLES = 10 (no carry-over of the excess) (spec/95_test_vectors.md). -/
theorem test_ve10_frame_check_with_frame_cycles_10_no :
    after (placed { State.reset with cfg := { Params.default with frameCycles := 10 } } [0xC3, 0x00, 0x01]) (fun t => (t.pc, t.cycles))
      = some (0x0100, 0) := by
  decide

/-- VE11: CB prefix, sub-opcode fetched from PC+1 (spec/95_test_vectors.md). -/
theorem test_ve11_cb_prefix_sub_opcode_fetched_from_pc_1 :
    after (placed { State.reset with a := 0x12 } [0xCB, 0x37]) (fun t => (t.a, t.f))
      = some (0x21, 0x00) := by
  decide

/-- VS1: PUSH BC (spec/95_test_vectors.md). -/
theorem test_vs1_push_bc :
    after (placed { State.reset with b := 0x12, c := 0x34, sp := 0xD000 } [0xC5]) (fun t => (t.sp, t.byteAt 0xCFFE, t.byteAt 0xCFFF))
      = some (0xCFFE, 0x34, 0x12) := by
  decide

/-- VS2: PUSH AF (F low nibble is already 0) (spec/95_test_vectors.md). -/
theorem test_vs2_push_af_f_low_nibble_is_already_0 :
    after (placed { State.reset with a := 0x12, sp := 0xD000 } [0xF5]) (fun t => (t.sp, t.byteAt 0xCFFE, t.byteAt 0xCFFF))
      = some (0xCFFE, 0xB0, 0x12) := by
  decide

/-- VS3: POP DE (spec/95_test_vectors.md). -/
theorem test_vs3_pop_de :
    after (((placed { State.reset with sp := 0xCFFE } [0xD1]).setByte 0xCFFE 0x34).setByte 0xCFFF 0x12) (fun t => (t.d, t.e, t.sp))
      = some (0x12, 0x34, 0xD000) := by
  decide

/-- VS4: POP AF drops the low nibble (spec/95_test_vectors.md). -/
theorem test_vs4_pop_af_drops_the_low_nibble :
    after (((placed { State.reset with sp := 0xCFFE } [0xF1]).setByte 0xCFFE 0xFF).setByte 0xCFFF 0x12) (fun t => (t.a, t.f, t.sp))
      = some (0x12, 0xF0, 0xD000) := by
  decide

/-- VS5: PUSH BC with SP = 0x0001 (SP wraps, writes 0x0000 then 0xFFFF) (spec/95_test_vectors.md). -/
theorem test_vs5_push_bc_with_sp_0x0001_sp_wraps_writes :
    after (placed { State.reset with b := 0xAB, c := 0xCD, sp := 0x0001 } [0xC5]) (fun t => (t.sp, t.byteAt 0x0000, t.byteAt 0xFFFF))
      = some (0xFFFF, 0xAB, 0xCD) := by
  decide

/-- VS6: POP HL with SP = 0xFFFF (reads 0xFFFF then 0x0000) (spec/95_test_vectors.md). -/
theorem test_vs6_pop_hl_with_sp_0xffff_reads_0xffff_then :
    after (((placed { State.reset with sp := 0xFFFF } [0xE1]).setByte 0xFFFF 0x11).setByte 0x0000 0x22) (fun t => (t.h, t.l, t.sp))
      = some (0x22, 0x11, 0x0001) := by
  decide

/-- VS7: CALL a16 (spec/95_test_vectors.md). -/
theorem test_vs7_call_a16 :
    after (placed { State.reset with sp := 0xD000 } [0xCD, 0x34, 0x12]) (fun t => (t.sp, t.byteAt 0xCFFE, t.pc))
      = some (0xCFFE, 0x03, 0x1234) := by
  decide

/-- VS8: CALL NZ,a16 taken (spec/95_test_vectors.md). -/
theorem test_vs8_call_nz_a16_taken :
    after (placed { State.reset with sp := 0xD000, f := 0x00 } [0xC4, 0x34, 0x12]) (fun t => (t.sp, t.byteAt 0xCFFE, t.pc))
      = some (0xCFFE, 0x03, 0x1234) := by
  decide

/-- VS9: CALL Z,a16 not taken (spec/95_test_vectors.md). -/
theorem test_vs9_call_z_a16_not_taken :
    after (placed { State.reset with sp := 0xD000, f := 0x00 } [0xCC, 0x34, 0x12]) (fun t => (t.pc, t.cycles))
      = some (0x0103, 12) := by
  decide

/-- VS10: RET (spec/95_test_vectors.md). -/
theorem test_vs10_ret :
    after (((placed { State.reset with sp := 0xCFFE } [0xC9]).setByte 0xCFFE 0x03).setByte 0xCFFF 0x02) (fun t => (t.sp, t.pc))
      = some (0xD000, 0x0203) := by
  decide

/-- VS11: RET C taken (spec/95_test_vectors.md). -/
theorem test_vs11_ret_c_taken :
    after (((placed { State.reset with sp := 0xCFFE, f := 0x10 } [0xD8]).setByte 0xCFFE 0x03).setByte 0xCFFF 0x02) (fun t => (t.sp, t.pc))
      = some (0xD000, 0x0203) := by
  decide

/-- VS12: RET NC not taken (spec/95_test_vectors.md). -/
theorem test_vs12_ret_nc_not_taken :
    after (((placed { State.reset with sp := 0xCFFE, f := 0x10 } [0xD0]).setByte 0xCFFE 0x03).setByte 0xCFFF 0x02) (fun t => (t.pc, t.cycles))
      = some (0x0101, 8) := by
  decide

/-- VS13: RETI sets IME (spec/95_test_vectors.md). -/
theorem test_vs13_reti_sets_ime :
    after (((placed { State.reset with sp := 0xCFFE } [0xD9]).setByte 0xCFFE 0x03).setByte 0xCFFF 0x02) (fun t => (t.sp, t.ime, t.pc))
      = some (0xD000, true, 0x0203) := by
  decide

/-- VS14: RST 0x38 (spec/95_test_vectors.md). -/
theorem test_vs14_rst_0x38 :
    after (placed { State.reset with sp := 0xD000 } [0xFF]) (fun t => (t.sp, t.byteAt 0xCFFE, t.pc))
      = some (0xCFFE, 0x01, 0x0038) := by
  decide

/-- VS15: RST 0x08 at 0x0200 (spec/95_test_vectors.md). -/
theorem test_vs15_rst_0x08_at_0x0200 :
    after (placed { State.reset with pc := 0x0200, sp := 0xD000 } [0xCF]) (fun t => (t.sp, t.byteAt 0xCFFE, t.pc))
      = some (0xCFFE, 0x01, 0x0008) := by
  decide

/-- VJ2: JR -128 (most negative) (spec/95_test_vectors.md). -/
theorem test_vj2_jr_128_most_negative :
    after (placed State.reset [0x18, 0x80]) (fun t => (t.pc, t.cycles))
      = some (0x0082, 12) := by
  decide

/-- VJ5: JR -16 wrapping below 0x0000 (spec/95_test_vectors.md). -/
theorem test_vj5_jr_16_wrapping_below_0x0000 :
    after (placed { State.reset with pc := 0x0004 } [0x18, 0xF0]) (fun t => (t.pc, t.cycles))
      = some (0xFFF6, 12) := by
  decide

/-- VJ6: JR Z,+4 taken (spec/95_test_vectors.md). -/
theorem test_vj6_jr_z_4_taken :
    after (placed { State.reset with f := 0x80 } [0x28, 0x04]) (fun t => (t.pc, t.cycles))
      = some (0x0106, 12) := by
  decide

/-- VJ7: JR C,+4 not taken (spec/95_test_vectors.md). -/
theorem test_vj7_jr_c_4_not_taken :
    after (placed { State.reset with f := 0x80 } [0x38, 0x04]) (fun t => (t.pc, t.cycles))
      = some (0x0102, 8) := by
  decide

/-- VJ8: JP a16 (spec/95_test_vectors.md). -/
theorem test_vj8_jp_a16 :
    after (placed State.reset [0xC3, 0x50, 0x01]) (fun t => (t.pc, t.cycles))
      = some (0x0150, 16) := by
  decide

/-- VJ9: JP NC,a16 taken (spec/95_test_vectors.md). -/
theorem test_vj9_jp_nc_a16_taken :
    after (placed { State.reset with f := 0x00 } [0xD2, 0x00, 0x80]) (fun t => (t.pc, t.cycles))
      = some (0x8000, 16) := by
  decide

/-- VJ10: JP NZ,a16 not taken (spec/95_test_vectors.md). -/
theorem test_vj10_jp_nz_a16_not_taken :
    after (placed { State.reset with f := 0x80 } [0xC2, 0x00, 0x80]) (fun t => (t.pc, t.cycles))
      = some (0x0103, 12) := by
  decide

/-- VJ11: JP HL (spec/95_test_vectors.md). -/
theorem test_vj11_jp_hl :
    after (placed { State.reset with h := 0x40, l := 0x00 } [0xE9]) (fun t => (t.pc, t.cycles))
      = some (0x4000, 4) := by
  decide

/-- VA1: ADD A,B: result zero with both carries (spec/95_test_vectors.md). -/
theorem test_va1_add_a_b :
    after (placed { State.reset with a := 0x3A, b := 0xC6 } [0x80]) (fun t => (t.a, t.cycles))
      = some (0x00, 4) := by
  decide

/-- VA2: ADD A,d8: half carry only (spec/95_test_vectors.md). -/
theorem test_va2_add_a_d8 :
    after (placed { State.reset with a := 0x0F } [0xC6, 0x01]) (fun t => (t.a, t.f))
      = some (0x10, 0x20) := by
  decide

/-- VA5: ADC A,C with carry in: 0xFF + 0x00 + 1 (spec/95_test_vectors.md). -/
theorem test_va5_adc_a_c_with_carry_in :
    after (placed { State.reset with a := 0xFF, c := 0x00, f := 0x10 } [0x89]) (fun t => (t.a, t.f))
      = some (0x00, 0xB0) := by
  decide

/-- VA6: ADC A,d8 with carry in: half carry from the carry alone (spec/95_test_vectors.md). -/
theorem test_va6_adc_a_d8_with_carry_in :
    after (placed { State.reset with a := 0x0F, f := 0x10 } [0xCE, 0x00]) (fun t => (t.a, t.f))
      = some (0x10, 0x20) := by
  decide

/-- VA7: SUB B: equal operands (spec/95_test_vectors.md). -/
theorem test_va7_sub_b :
    after (placed { State.reset with a := 0x3E, b := 0x3E } [0x90]) (fun t => (t.a, t.f))
      = some (0x00, 0xC0) := by
  decide

/-- VA8: SUB d8: half borrow only (spec/95_test_vectors.md). -/
theorem test_va8_sub_d8 :
    after (placed { State.reset with a := 0x10 } [0xD6, 0x01]) (fun t => (t.a, t.f))
      = some (0x0F, 0x60) := by
  decide

/-- VA11: SBC A,B with borrow in: 0x00 - 0x00 - 1 (spec/95_test_vectors.md). -/
theorem test_va11_sbc_a_b_with_borrow_in :
    after (placed { State.reset with a := 0x00, f := 0x10 } [0x98]) (fun t => (t.a, t.f))
      = some (0xFF, 0x70) := by
  decide

/-- VA12: SBC A,d8 with borrow in: 0x10 - 0x0F - 1 (spec/95_test_vectors.md). -/
theorem test_va12_sbc_a_d8_with_borrow_in :
    after (placed { State.reset with a := 0x10, f := 0x10 } [0xDE, 0x0F]) (fun t => (t.a, t.f))
      = some (0x00, 0xE0) := by
  decide

/-- VA13: AND B: H is set, C cleared (spec/95_test_vectors.md). -/
theorem test_va13_and_b :
    after (placed { State.reset with a := 0xF0, b := 0x0F, f := 0x10 } [0xA0]) (fun t => (t.a, t.f))
      = some (0x00, 0xA0) := by
  decide

/-- VA14: AND d8 nonzero (spec/95_test_vectors.md). -/
theorem test_va14_and_d8_nonzero :
    after (placed { State.reset with a := 0xFF } [0xE6, 0x3C]) (fun t => (t.a, t.f))
      = some (0x3C, 0x20) := by
  decide

/-- VA15: XOR A: clear A (spec/95_test_vectors.md). -/
theorem test_va15_xor_a :
    after (placed { State.reset with a := 0x5A, f := 0x70 } [0xAF]) (fun t => (t.a, t.f))
      = some (0x00, 0x80) := by
  decide

/-- VA16: XOR d8 (spec/95_test_vectors.md). -/
theorem test_va16_xor_d8 :
    after (placed { State.reset with a := 0x0F } [0xEE, 0xFF]) (fun t => (t.a, t.f))
      = some (0xF0, 0x00) := by
  decide

/-- VA17: OR (HL) (spec/95_test_vectors.md). -/
theorem test_va17_or_hl :
    after ((placed { State.reset with a := 0x00, h := 0xC0, l := 0x00 } [0xB6]).setByte 0xC000 0x00) (fun t => (t.f, t.cycles))
      = some (0x80, 8) := by
  decide

/-- VA18: OR C (spec/95_test_vectors.md). -/
theorem test_va18_or_c :
    after (placed { State.reset with a := 0x10, c := 0x01, f := 0xF0 } [0xB1]) (fun t => (t.a, t.f))
      = some (0x11, 0x00) := by
  decide

/-- VA19: CP d8 equal: A unchanged (spec/95_test_vectors.md). -/
theorem test_va19_cp_d8_equal :
    after (placed { State.reset with a := 0x42 } [0xFE, 0x42]) (fun t => (t.f, t.cycles))
      = some (0xC0, 8) := by
  decide

/-- VA20: CP B with A < B (spec/95_test_vectors.md). -/
theorem test_va20_cp_b_with_a_b :
    after (placed { State.reset with a := 0x10, b := 0x20 } [0xB8]) (fun t => (t.f, t.cycles))
      = some (0x50, 4) := by
  decide

/-- VA22: INC B: 0xFF wraps to 0x00, C kept (spec/95_test_vectors.md). -/
theorem test_va22_inc_b :
    after (placed { State.reset with b := 0xFF, f := 0x10 } [0x04]) (fun t => (t.f, t.b))
      = some (0xB0, 0x00) := by
  decide

/-- VA23: INC C: half carry 0x0F to 0x10 (spec/95_test_vectors.md). -/
theorem test_va23_inc_c :
    after (placed { State.reset with c := 0x0F, f := 0x00 } [0x0C]) (fun t => (t.f, t.c))
      = some (0x20, 0x10) := by
  decide

/-- VA24: DEC D: 0x00 wraps to 0xFF (spec/95_test_vectors.md). -/
theorem test_va24_dec_d :
    after (placed { State.reset with f := 0x00 } [0x15]) (fun t => (t.f, t.d))
      = some (0x60, 0xFF) := by
  decide

/-- VA25: DEC E: 0x01 to 0x00 (spec/95_test_vectors.md). -/
theorem test_va25_dec_e :
    after (placed { State.reset with e := 0x01, f := 0x10 } [0x1D]) (fun t => (t.f, t.e))
      = some (0xD0, 0x00) := by
  decide

/-- VA27: INC (HL) (spec/95_test_vectors.md). -/
theorem test_va27_inc_hl :
    after ((placed { State.reset with h := 0xC0, l := 0x00, f := 0x00 } [0x34]).setByte 0xC000 0xFF) (fun t => (t.f, t.byteAt 0xC000))
      = some (0xA0, 0x00) := by
  decide

/-- VA28: DEC (HL) (spec/95_test_vectors.md). -/
theorem test_va28_dec_hl :
    after ((placed { State.reset with h := 0xC0, l := 0x00, f := 0x10 } [0x35]).setByte 0xC000 0x01) (fun t => (t.f, t.byteAt 0xC000))
      = some (0xD0, 0x00) := by
  decide

/-- VA30: DAA after 0x99 + 0x01 (ADD gave 0x9A) (spec/95_test_vectors.md). -/
theorem test_va30_daa_after_0x99_0x01_add_gave_0x9a :
    after (placed { State.reset with a := 0x9A, f := 0x00 } [0x27]) (fun t => (t.a, t.f))
      = some (0x00, 0x90) := by
  decide

/-- VA31: DAA after 0x10 - 0x01 (SUB gave 0x0F, N=1 H=1) (spec/95_test_vectors.md). -/
theorem test_va31_daa_after_0x10_0x01_sub_gave_0x0f_n_1_h :
    after (placed { State.reset with a := 0x0F, f := 0x60 } [0x27]) (fun t => (t.a, t.f))
      = some (0x09, 0x40) := by
  decide

/-- VA34: CPL (spec/95_test_vectors.md). -/
theorem test_va34_cpl :
    after (placed { State.reset with a := 0x35, f := 0x80 } [0x2F]) (fun t => (t.a, t.f))
      = some (0xCA, 0xE0) := by
  decide

/-- VA35: SCF (spec/95_test_vectors.md). -/
theorem test_va35_scf :
    after (placed { State.reset with f := 0xE0 } [0x37]) (fun t => (t.f, t.cycles))
      = some (0x90, 4) := by
  decide

/-- VA36: CCF with C = 1 (spec/95_test_vectors.md). -/
theorem test_va36_ccf_with_c_1 :
    after (placed { State.reset with f := 0x70 } [0x3F]) (fun t => (t.f, t.cycles))
      = some (0x00, 4) := by
  decide

/-- VA37: CCF with C = 0 (spec/95_test_vectors.md). -/
theorem test_va37_ccf_with_c_0 :
    after (placed { State.reset with f := 0x80 } [0x3F]) (fun t => (t.f, t.cycles))
      = some (0x90, 4) := by
  decide

/-- VW1: INC BC: 0xFFFF wraps, flags unchanged (spec/95_test_vectors.md). -/
theorem test_vw1_inc_bc :
    after (placed { State.reset with b := 0xFF, c := 0xFF, f := 0x00 } [0x03]) (fun t => (t.b, t.c))
      = some (0x00, 0x00) := by
  decide

/-- VW2: DEC SP: 0x0000 wraps (spec/95_test_vectors.md). -/
theorem test_vw2_dec_sp :
    after (placed { State.reset with sp := 0x0000 } [0x3B]) (fun t => (t.sp, t.cycles))
      = some (0xFFFF, 8) := by
  decide

/-- VW3: INC HL: carry between the bytes (spec/95_test_vectors.md). -/
theorem test_vw3_inc_hl :
    after (placed { State.reset with h := 0x00, l := 0xFF } [0x23]) (fun t => (t.h, t.l))
      = some (0x01, 0x00) := by
  decide

/-- VW4: DEC DE: borrow between the bytes (spec/95_test_vectors.md). -/
theorem test_vw4_dec_de :
    after (placed { State.reset with d := 0x01, e := 0x00 } [0x1B]) (fun t => (t.d, t.e))
      = some (0x00, 0xFF) := by
  decide

/-- VW5: ADD HL,BC: half carry at bit 11 (spec/95_test_vectors.md). -/
theorem test_vw5_add_hl_bc :
    after (placed { State.reset with h := 0x0F, l := 0xFF, c := 0x01, f := 0x80 } [0x09]) (fun t => (t.f, t.h, t.l))
      = some (0xA0, 0x10, 0x00) := by
  decide

/-- VW6: ADD HL,HL: 0x8000 + 0x8000 wraps, Z kept (spec/95_test_vectors.md). -/
theorem test_vw6_add_hl_hl :
    after (placed { State.reset with h := 0x80, l := 0x00, f := 0x00 } [0x29]) (fun t => (t.f, t.h))
      = some (0x10, 0x00) := by
  decide

/-- VW9: ADD SP,-1 from 0x0000 (no carries: low byte 0x00 + 0xFF) (spec/95_test_vectors.md). -/
theorem test_vw9_add_sp_1_from_0x0000_no_carries :
    after (placed { State.reset with sp := 0x0000 } [0xE8, 0xFF]) (fun t => (t.f, t.sp))
      = some (0x00, 0xFFFF) := by
  decide

/-- VW10: ADD SP,-1 from 0xD001: both low-byte carries set (spec/95_test_vectors.md). -/
theorem test_vw10_add_sp_1_from_0xd001 :
    after (placed { State.reset with sp := 0xD001 } [0xE8, 0xFF]) (fun t => (t.f, t.sp))
      = some (0x30, 0xD000) := by
  decide

/-- VL1: LD B,C (spec/95_test_vectors.md). -/
theorem test_vl1_ld_b_c :
    after (placed { State.reset with c := 0x99 } [0x41]) (fun t => (t.b, t.cycles))
      = some (0x99, 4) := by
  decide

/-- VL3: LD H,(HL): the address register is overwritten (spec/95_test_vectors.md). -/
theorem test_vl3_ld_h_hl :
    after ((placed { State.reset with h := 0xC0, l := 0x00 } [0x66]).setByte 0xC000 0x80) (fun t => (t.h, t.cycles))
      = some (0x80, 8) := by
  decide

/-- VL4: LD (HL),L: the address register is the source (spec/95_test_vectors.md). -/
theorem test_vl4_ld_hl_l :
    after (placed { State.reset with h := 0xC0, l := 0x12 } [0x75]) (fun t => (t.byteAt 0xC012, t.cycles))
      = some (0x12, 8) := by
  decide

/-- VL5: LD (HL),d8 (spec/95_test_vectors.md). -/
theorem test_vl5_ld_hl_d8 :
    after (placed { State.reset with h := 0xC0, l := 0x00 } [0x36, 0x5A]) (fun t => (t.byteAt 0xC000, t.cycles))
      = some (0x5A, 12) := by
  decide

/-- VL6: LD E,d8 (spec/95_test_vectors.md). -/
theorem test_vl6_ld_e_d8 :
    after (placed State.reset [0x1E, 0xFE]) (fun t => (t.e, t.cycles))
      = some (0xFE, 8) := by
  decide

/-- VL7: LD A,(BC) (spec/95_test_vectors.md). -/
theorem test_vl7_ld_a_bc :
    after ((placed { State.reset with b := 0xC0, c := 0x00 } [0x0A]).setByte 0xC000 0x33) (fun t => (t.a, t.cycles))
      = some (0x33, 8) := by
  decide

/-- VL8: LD A,(DE) (spec/95_test_vectors.md). -/
theorem test_vl8_ld_a_de :
    after ((placed { State.reset with d := 0xC0, e := 0x01 } [0x1A]).setByte 0xC001 0x44) (fun t => (t.a, t.cycles))
      = some (0x44, 8) := by
  decide

/-- VL9: LD (BC),A (spec/95_test_vectors.md). -/
theorem test_vl9_ld_bc_a :
    after (placed { State.reset with b := 0xC0, c := 0x00, a := 0x55 } [0x02]) (fun t => (t.byteAt 0xC000, t.cycles))
      = some (0x55, 8) := by
  decide

/-- VL10: LD (DE),A (spec/95_test_vectors.md). -/
theorem test_vl10_ld_de_a :
    after (placed { State.reset with d := 0xC0, e := 0x00, a := 0x66 } [0x12]) (fun t => (t.byteAt 0xC000, t.cycles))
      = some (0x66, 8) := by
  decide

/-- VL11: LD A,(a16) (spec/95_test_vectors.md). -/
theorem test_vl11_ld_a_a16 :
    after ((placed State.reset [0xFA, 0x00, 0xC0]).setByte 0xC000 0x77) (fun t => (t.a, t.cycles))
      = some (0x77, 16) := by
  decide

/-- VL12: LD (a16),A (spec/95_test_vectors.md). -/
theorem test_vl12_ld_a16_a :
    after (placed { State.reset with a := 0x88 } [0xEA, 0x00, 0xC0]) (fun t => (t.byteAt 0xC000, t.cycles))
      = some (0x88, 16) := by
  decide

/-- VL13: LDH (a8),A (spec/95_test_vectors.md). -/
theorem test_vl13_ldh_a8_a :
    after (placed { State.reset with a := 0x99 } [0xE0, 0x80]) (fun t => (t.byteAt 0xFF80, t.cycles))
      = some (0x99, 12) := by
  decide

/-- VL14: LDH A,(a8) reads 0xFF44 as plain storage (spec/95_test_vectors.md). -/
theorem test_vl14_ldh_a_a8_reads_0xff44_as_plain_storage :
    after ((placed State.reset [0xF0, 0x44]).setByte 0xFF44 0x90) (fun t => (t.a, t.cycles))
      = some (0x90, 12) := by
  decide

/-- VL15: LD (C),A (spec/95_test_vectors.md). -/
theorem test_vl15_ld_c_a :
    after (placed { State.reset with c := 0x81, a := 0xAA } [0xE2]) (fun t => (t.byteAt 0xFF81, t.cycles))
      = some (0xAA, 8) := by
  decide

/-- VL16: LD A,(C) (spec/95_test_vectors.md). -/
theorem test_vl16_ld_a_c :
    after ((placed { State.reset with c := 0xFF } [0xF2]).setByte 0xFFFF 0xBB) (fun t => (t.a, t.cycles))
      = some (0xBB, 8) := by
  decide

/-- VL17: LD (HL+),A at HL = 0xFFFF: HL wraps (spec/95_test_vectors.md). -/
theorem test_vl17_ld_hl_a_at_hl_0xffff :
    after (placed { State.reset with h := 0xFF, l := 0xFF, a := 0xCC } [0x22]) (fun t => (t.h, t.l, t.byteAt 0xFFFF))
      = some (0x00, 0x00, 0xCC) := by
  decide

/-- VL18: LD (HL-),A at HL = 0x0000: HL wraps (spec/95_test_vectors.md). -/
theorem test_vl18_ld_hl_a_at_hl_0x0000 :
    after (placed { State.reset with h := 0x00, l := 0x00, a := 0xDD } [0x32]) (fun t => (t.h, t.l, t.byteAt 0x0000))
      = some (0xFF, 0xFF, 0xDD) := by
  decide

/-- VL19: LD A,(HL+) (spec/95_test_vectors.md). -/
theorem test_vl19_ld_a_hl :
    after ((placed { State.reset with h := 0xC0, l := 0x00 } [0x2A]).setByte 0xC000 0x11) (fun t => (t.a, t.l))
      = some (0x11, 0x01) := by
  decide

/-- VL20: LD A,(HL-) (spec/95_test_vectors.md). -/
theorem test_vl20_ld_a_hl :
    after ((placed { State.reset with h := 0xC0, l := 0x00 } [0x3A]).setByte 0xC000 0x22) (fun t => (t.a, t.h, t.l))
      = some (0x22, 0xBF, 0xFF) := by
  decide

/-- VL21: LD BC,d16 (spec/95_test_vectors.md). -/
theorem test_vl21_ld_bc_d16 :
    after (placed State.reset [0x01, 0x34, 0x12]) (fun t => (t.b, t.c))
      = some (0x12, 0x34) := by
  decide

/-- VL22: LD SP,d16 (spec/95_test_vectors.md). -/
theorem test_vl22_ld_sp_d16 :
    after (placed State.reset [0x31, 0xFE, 0xCF]) (fun t => (t.sp, t.cycles))
      = some (0xCFFE, 12) := by
  decide

/-- VL23: LD (a16),SP (spec/95_test_vectors.md). -/
theorem test_vl23_ld_a16_sp :
    after (placed { State.reset with sp := 0xABCD } [0x08, 0x00, 0xC0]) (fun t => (t.byteAt 0xC000, t.byteAt 0xC001))
      = some (0xCD, 0xAB) := by
  decide

/-- VL24: LD (a16),SP at 0xFFFF: the second byte wraps to 0x0000 (spec/95_test_vectors.md). -/
theorem test_vl24_ld_a16_sp_at_0xffff :
    after (placed { State.reset with sp := 0x1234 } [0x08, 0xFF, 0xFF]) (fun t => (t.byteAt 0x0000, t.byteAt 0xFFFF))
      = some (0x12, 0x34) := by
  decide

/-- VL25: LD SP,HL (spec/95_test_vectors.md). -/
theorem test_vl25_ld_sp_hl :
    after (placed { State.reset with h := 0xC1, l := 0x23 } [0xF9]) (fun t => (t.sp, t.cycles))
      = some (0xC123, 8) := by
  decide

/-- VL26: LD HL,SP+e8 with e8 = -2 (spec/95_test_vectors.md). -/
theorem test_vl26_ld_hl_sp_e8_with_e8_2 :
    after (placed { State.reset with sp := 0xD000, f := 0xC0 } [0xF8, 0xFE]) (fun t => (t.f, t.h, t.l))
      = some (0x00, 0xCF, 0xFE) := by
  decide

/-- VL27: LD HL,SP+e8 with e8 = +1, low-byte carries (spec/95_test_vectors.md). -/
theorem test_vl27_ld_hl_sp_e8_with_e8_1_low_byte_carries :
    after (placed { State.reset with sp := 0x00FF } [0xF8, 0x01]) (fun t => (t.f, t.l))
      = some (0x30, 0x00) := by
  decide

/-- VB1: RLCA (spec/95_test_vectors.md). -/
theorem test_vb1_rlca :
    after (placed { State.reset with a := 0x85, f := 0x00 } [0x07]) (fun t => (t.a, t.f))
      = some (0x0B, 0x10) := by
  decide

/-- VB2: RLCA with A = 0: Z is 0 (spec/95_test_vectors.md). -/
theorem test_vb2_rlca_with_a_0 :
    after (placed { State.reset with a := 0x00, f := 0x80 } [0x07]) (fun t => (t.f, t.cycles))
      = some (0x00, 4) := by
  decide

/-- VB3: RLA with C = 1 (spec/95_test_vectors.md). -/
theorem test_vb3_rla_with_c_1 :
    after (placed { State.reset with a := 0x80, f := 0x10 } [0x17]) (fun t => (t.a, t.cycles))
      = some (0x01, 4) := by
  decide

/-- VB4: RRCA (spec/95_test_vectors.md). -/
theorem test_vb4_rrca :
    after (placed { State.reset with f := 0x00 } [0x0F]) (fun t => (t.a, t.f))
      = some (0x80, 0x10) := by
  decide

/-- VB5: RRA with C = 0 (spec/95_test_vectors.md). -/
theorem test_vb5_rra_with_c_0 :
    after (placed { State.reset with f := 0x00 } [0x1F]) (fun t => (t.a, t.f))
      = some (0x00, 0x10) := by
  decide

/-- VB6: RLC B (spec/95_test_vectors.md). -/
theorem test_vb6_rlc_b :
    after (placed { State.reset with b := 0x80, f := 0x00 } [0xCB, 0x00]) (fun t => (t.f, t.b))
      = some (0x10, 0x01) := by
  decide

/-- VB7: RLC B with B = 0: Z is 1 (spec/95_test_vectors.md). -/
theorem test_vb7_rlc_b_with_b_0 :
    after (placed { State.reset with f := 0x00 } [0xCB, 0x00]) (fun t => (t.f, t.cycles))
      = some (0x80, 8) := by
  decide

/-- VB8: RRC C (spec/95_test_vectors.md). -/
theorem test_vb8_rrc_c :
    after (placed { State.reset with c := 0x01, f := 0x00 } [0xCB, 0x09]) (fun t => (t.f, t.c))
      = some (0x10, 0x80) := by
  decide

/-- VB9: RL D with C = 1 (spec/95_test_vectors.md). -/
theorem test_vb9_rl_d_with_c_1 :
    after (placed { State.reset with d := 0x80, f := 0x10 } [0xCB, 0x12]) (fun t => (t.d, t.cycles))
      = some (0x01, 8) := by
  decide

/-- VB10: RR E with C = 0 (spec/95_test_vectors.md). -/
theorem test_vb10_rr_e_with_c_0 :
    after (placed { State.reset with e := 0x01, f := 0x00 } [0xCB, 0x1B]) (fun t => (t.f, t.e))
      = some (0x90, 0x00) := by
  decide

/-- VB11: SLA H (spec/95_test_vectors.md). -/
theorem test_vb11_sla_h :
    after (placed { State.reset with h := 0x80, f := 0x00 } [0xCB, 0x24]) (fun t => (t.f, t.h))
      = some (0x90, 0x00) := by
  decide

/-- VB12: SRA L (spec/95_test_vectors.md). -/
theorem test_vb12_sra_l :
    after (placed { State.reset with l := 0x81, f := 0x00 } [0xCB, 0x2D]) (fun t => (t.f, t.l))
      = some (0x10, 0xC0) := by
  decide

/-- VB13: SWAP A (spec/95_test_vectors.md). -/
theorem test_vb13_swap_a :
    after (placed { State.reset with a := 0xF0, f := 0x10 } [0xCB, 0x37]) (fun t => (t.a, t.f))
      = some (0x0F, 0x00) := by
  decide

/-- VB14: SWAP A with A = 0 (spec/95_test_vectors.md). -/
theorem test_vb14_swap_a_with_a_0 :
    after (placed { State.reset with a := 0x00, f := 0x00 } [0xCB, 0x37]) (fun t => (t.f, t.cycles))
      = some (0x80, 8) := by
  decide

/-- VB15: SRL A (spec/95_test_vectors.md). -/
theorem test_vb15_srl_a :
    after (placed { State.reset with f := 0x00 } [0xCB, 0x3F]) (fun t => (t.a, t.f))
      = some (0x00, 0x90) := by
  decide

/-- VB16: RR (HL) (spec/95_test_vectors.md). -/
theorem test_vb16_rr_hl :
    after ((placed { State.reset with h := 0xC0, l := 0x00, f := 0x10 } [0xCB, 0x1E]).setByte 0xC000 0x02) (fun t => (t.f, t.byteAt 0xC000))
      = some (0x00, 0x81) := by
  decide

/-- VB17: BIT 7,H with bit 7 = 0 (spec/95_test_vectors.md). -/
theorem test_vb17_bit_7_h_with_bit_7_0 :
    after (placed { State.reset with h := 0x7F, f := 0x10 } [0xCB, 0x7C]) (fun t => (t.f, t.cycles))
      = some (0xB0, 8) := by
  decide

/-- VB18: BIT 0,(HL) with bit 0 = 1 (spec/95_test_vectors.md). -/
theorem test_vb18_bit_0_hl_with_bit_0_1 :
    after ((placed { State.reset with h := 0xC0, l := 0x00, f := 0x40 } [0xCB, 0x46]).setByte 0xC000 0x01) (fun t => (t.f, t.cycles))
      = some (0x20, 12) := by
  decide

/-- VB19: RES 0,A (spec/95_test_vectors.md). -/
theorem test_vb19_res_0_a :
    after (placed { State.reset with a := 0xFF } [0xCB, 0x87]) (fun t => (t.a, t.cycles))
      = some (0xFE, 8) := by
  decide

/-- VB20: SET 7,(HL) (spec/95_test_vectors.md). -/
theorem test_vb20_set_7_hl :
    after ((placed { State.reset with h := 0xC0, l := 0x00 } [0xCB, 0xFE]).setByte 0xC000 0x00) (fun t => (t.byteAt 0xC000, t.cycles))
      = some (0x80, 16) := by
  decide

/-- VB21: SET 3,B already set (spec/95_test_vectors.md). -/
theorem test_vb21_set_3_b_already_set :
    after (placed { State.reset with b := 0x08 } [0xCB, 0xD8]) (fun t => t.cycles)
      = some (8) := by
  decide

/-- VK1: NOP (spec/95_test_vectors.md). -/
theorem test_vk1_nop :
    after (placed State.reset [0x00]) (fun t => t.cycles)
      = some (4) := by
  decide

/-- VK2: HALT (spec/95_test_vectors.md). -/
theorem test_vk2_halt :
    after (placed State.reset [0x76]) (fun t => (t.run, t.cycles))
      = some (.sleeping .halt, 4) := by
  decide

/-- VK6: DI (spec/95_test_vectors.md). -/
theorem test_vk6_di :
    after (placed { State.reset with ime := true } [0xF3]) (fun t => (t.ime, t.cycles))
      = some (false, 4) := by
  decide

/-- VK7: EI (spec/95_test_vectors.md). -/
theorem test_vk7_ei :
    after (placed State.reset [0xFB]) (fun t => (t.ime, t.cycles))
      = some (true, 4) := by
  decide

/-- VK8: injected irq(0x0040) in Running with IME = 1 (the NOP is not executed in this step) (spec/95_test_vectors.md). -/
theorem test_vk8_injected_irq_0x0040_in_running_with_ime :
    after (placed { State.reset with ime := true, sp := 0xD000, port := [.irq .vblank], cfg := { Params.default with irqPort := true } } [0x00]) (fun t => (t.sp, t.ime, t.pc))
      = some (0xCFFE, false, 0x0040) := by
  decide

/-- VK9: injected irq(0x0040) in Running with IME = 0: the NOP executes instead (spec/95_test_vectors.md). -/
theorem test_vk9_injected_irq_0x0040_in_running_with_ime :
    after (placed { State.reset with sp := 0xD000, port := [.irq .vblank], cfg := { Params.default with irqPort := true } } [0x00]) (fun t => (t.pc, t.cycles))
      = some (0x0101, 4) := by
  decide

/-- VK14: wake in Running is ignored: INC A executes (spec/95_test_vectors.md). -/
theorem test_vk14_wake_in_running_is_ignored :
    after (placed { State.reset with port := [.wake], cfg := { Params.default with irqPort := true } } [0x3C]) (fun t => (t.a, t.f))
      = some (0x02, 0x10) := by
  decide

/-! Witnesses: states and operands that meet the hypotheses of the statements, at the boundaries of their clauses. -/

/-- The hypotheses of `FetchStops`, for the byte number `k` of an instruction. -/
abbrev StopsAt (i : Instr) (s : State) (k : Nat) : Prop :=
  s.run = .running ∧ s.cfg.irqPort = false ∧ s.cfg.implements i.key = true ∧ k < (encode i).length ∧
  window s k = (encode i).take k ∧ (∀ j, j < k → s.inRange (s.pc + BitVec.ofNat 16 j) = true) ∧
  s.inRange (s.pc + BitVec.ofNat 16 k) = false

/-- The first `k` bytes of an instruction at the last `k` addresses of a small machine. -/
def cut (i : Instr) (k : Nat) : State := placed (small (0x100 + k)) ((encode i).take k)

theorem test_witness_DecodeInvertsEncode : (Instr.ld_bc_d16 0x1234).wellFormed = true := by decide

theorem test_witness_DecodedBytesAreTheEncoding : decode [0x01, 0x34, 0x12, 0x76] = .ok (.ld_bc_d16 0x1234, [0x76]) := rfl

theorem test_witness_LengthIsDecidedByTheFirstByte :
    ((0xCD : Byte) ∉ illegalOpcodes ∧ decode [0xCD, 0x34, 0x12, 0x00] = .ok (.call_a16 0x1234, [0x00])) ∧
    let s := placed (small 0x101) [0xFD]
    s.run = .running ∧ s.cfg.irqPort = false ∧ s.inRange s.pc = true ∧ s.byteAt s.pc ∈ illegalOpcodes :=
  ⟨⟨by decide, rfl⟩, by decide⟩

theorem test_witness_FlagsAreIndependent : Flag.z ≠ Flag.c := by decide

theorem test_witness_ImageIsLoadedAtZero :
    (small 2).cfg.wellFormed = true ∧ [0x3E, 0x05].length ≤ (small 2).cfg.memSize ∧
    (small 2).cfg.memSize < [0x3E, 0x05, 0x3C].length := by decide

theorem test_witness_ReadsReturnTheLastWrite :
    (0x7FFF : Word).toNat < (small 0x8000).cfg.memSize ∧ (small 0x8000).cfg.memSize ≤ (0x8000 : Word).toNat ∧
    (0x7FFE : Word) ≠ 0x7FFF := by decide

theorem test_witness_WordsAreLittleEndian :
    (State.reset.inRange 0xFFFF = true ∧ State.reset.inRange (0xFFFF + 1) = true) ∧
    (small 0x8000).inRange 0x8000 = false ∧
    ((small 0x8000).inRange 0x7FFF = true ∧ (small 0x8000).inRange (0x7FFF + 1) = false) := by decide

/-- A stack pointer at 0x8000 in a machine of `n` bytes. -/
def stackAt (sp : Word) (n : Nat) : State := { small n with sp := sp }

theorem test_witness_push_exists : PushExists (stackAt 0x0001 0x10000) := ⟨by decide, by decide⟩

theorem test_witness_push_stops :
    (stackAt 0x8001 0x8000).inRange ((stackAt 0x8001 0x8000).sp - 1) = false ∧
    ((stackAt 0x0001 0x8000).inRange ((stackAt 0x0001 0x8000).sp - 1) = true ∧
      (stackAt 0x0001 0x8000).inRange ((stackAt 0x0001 0x8000).sp - 2) = false) := by decide

theorem test_witness_pop_exists : PopExists (stackAt 0xFFFF 0x10000) := ⟨by decide, by decide⟩

theorem test_witness_pop_stops :
    (stackAt 0x8000 0x8000).inRange (stackAt 0x8000 0x8000).sp = false ∧
    ((stackAt 0x7FFF 0x8000).inRange (stackAt 0x7FFF 0x8000).sp = true ∧
      (stackAt 0x7FFF 0x8000).inRange ((stackAt 0x7FFF 0x8000).sp + 1) = false) := by decide

theorem test_witness_StackIsLastInFirstOut :
    (stackAt 0x0000 0x10000).inRange ((stackAt 0x0000 0x10000).sp - 1) = true ∧
    (stackAt 0xFFFF 0x10000).inRange (stackAt 0xFFFF 0x10000).sp = true ∧
    PushExists (stackAt 0x0001 0x10000) ∧ PopExists (stackAt 0xFFFF 0x10000) :=
  ⟨by decide, by decide, test_witness_push_exists, test_witness_pop_exists⟩

theorem test_witness_ImmediateByteLoads : StopsAt (Form.ldImm .b 5) (cut (Form.ldImm .b 5) 1) 1 := by decide

theorem test_witness_LoadsAndStoresAtHl :
    (small 0x14E).inRange (small 0x14E).hl = true ∧ (small 0x14D).inRange (small 0x14D).hl = false ∧
    StopsAt (.ld_at_hl_d8 5) (cut (.ld_at_hl_d8 5) 1) 1 := by decide

/-- The accumulator modes at the edge of a machine of 0xFF00 bytes, and in the full one. -/
theorem test_witness_AccumulatorLoads :
    ((small 0xFF00).inRange (modeAddress (small 0xFF00) (.abs 0xFEFF)) = true ∧
      (small 0xFF00).inRange (modeAddress (small 0xFF00) (.abs 0xFF00)) = false) ∧
    (State.reset.inRange (modeAddress State.reset (.high 0xFF)) = true ∧
      (small 0xFF00).inRange (modeAddress (small 0xFF00) (.high 0x00)) = false) ∧
    (State.reset.inRange (modeAddress State.reset .highC) = true ∧
      (small 0xFF13).inRange (modeAddress (small 0xFF13) .highC) = false) ∧
    ((small 0x14E).inRange (modeAddress (small 0x14E) .hlInc) = true ∧
      (small 0x14D).inRange (modeAddress (small 0x14D) .hlDec) = false) ∧
    StopsAt (Form.loadA (.abs 0xC000)) (cut (Form.loadA (.abs 0xC000)) 2) 2 ∧
    StopsAt (Form.loadA .bc) (cut (Form.loadA .bc) 0) 0 := by decide

theorem test_witness_AccumulatorStores :
    ((small 0x14).inRange (modeAddress (small 0x14) .bc) = true ∧
      (small 0x13).inRange (modeAddress (small 0x13) .bc) = false) ∧
    ((small 0xD9).inRange (modeAddress (small 0xD9) .de) = true ∧
      (small 0xD8).inRange (modeAddress (small 0xD8) .de) = false) ∧
    StopsAt (Form.storeA (.high 0x80)) (cut (Form.storeA (.high 0x80)) 1) 1 := by decide

theorem test_witness_WordMoves :
    StopsAt (Form.ldPair .sp 0xD000) (cut (Form.ldPair .sp 0xD000) 2) 2 ∧
    StopsAt (.ld_at_a16_sp 0xC000) (cut (.ld_at_a16_sp 0xC000) 1) 1 ∧
    (State.reset.inRange 0xFFFF = true ∧ State.reset.inRange (0xFFFF + 1) = true) ∧
    (small 0x8000).inRange 0x8000 = false ∧
    ((small 0x8000).inRange 0x7FFF = true ∧ (small 0x8000).inRange (0x7FFF + 1) = false) := by decide

theorem test_witness_StackPointerPlusDisplacement :
    StopsAt (.add_sp_e8 0xFF) (cut (.add_sp_e8 0xFF) 1) 1 ∧ StopsAt (.ld_hl_sp_e8 0xFE) (cut (.ld_hl_sp_e8 0xFE) 1) 1 := by
  decide

theorem test_witness_AdditionAndFlags :
    present (small 0x14E) (.loc .atHl) = true ∧ present (small 0x14D) (.loc .atHl) = false ∧
    present (small 1) (.imm 5) = true ∧ StopsAt (Form.alu .add (.imm 5)) (cut (Form.alu .add (.imm 5)) 1) 1 ∧
    StopsAt (Form.alu .adc (.imm 5)) (cut (Form.alu .adc (.imm 5)) 1) 1 := by decide

theorem test_witness_SubtractionAndFlags :
    present (small 0x14E) (.loc .atHl) = true ∧ present (small 0x14D) (.loc .atHl) = false ∧
    present (small 1) (.loc (.reg .b)) = true ∧ StopsAt (Form.alu .sbc (.imm 5)) (cut (Form.alu .sbc (.imm 5)) 1) 1 ∧
    StopsAt (Form.alu .cp (.loc .atHl)) (cut (Form.alu .cp (.loc .atHl)) 0) 0 := by decide

theorem test_witness_LogicAndFlags :
    present (small 0x14E) (.loc .atHl) = true ∧ present (small 0x14D) (.loc .atHl) = false ∧
    StopsAt (Form.alu .xor (.imm 5)) (cut (Form.alu .xor (.imm 5)) 1) 1 := by decide

/-- StepsByOne, ShiftsRewriteTheirOperand, BitTestsWriteFlagsOnly, BitsAreClearedAndSet and PrefixSelectsTheSubTable. -/
theorem test_witness_StepsByOne :
    present (small 0x14E) (.loc .atHl) = true ∧ present (small 0x14D) (.loc .atHl) = false ∧
    present (small 1) (.loc (.reg .h)) = true := by decide

theorem test_witness_DecimalAdjustMakesBcd : IsBcd 0x99 ∧ IsBcd 0x00 := ⟨⟨by decide, by decide⟩, ⟨by decide, by decide⟩⟩

theorem test_witness_PrefixSelectsTheSubTable :
    present (small 0x14E) (.loc (locOf (fieldZ 0x46))) = true ∧ present (small 1) (.loc (locOf (fieldZ 0x37))) = true := by
  decide

/-- A state whose Z and C are clear. -/
def flagsClear : State := { State.reset with f := 0x00 }

/-- RelativeJumps, AbsoluteJumps, CallsPushTheReturnAddress and ReturnsPopThePc: every condition both ways. -/
theorem test_witness_conditions :
    (holdsOn flagsClear .nz = true ∧ holdsOn State.reset .nz = false) ∧
    (holdsOn State.reset .z = true ∧ holdsOn flagsClear .z = false) ∧
    (holdsOn flagsClear .nc = true ∧ holdsOn State.reset .nc = false) ∧
    (holdsOn State.reset .c = true ∧ holdsOn flagsClear .c = false) := by decide

theorem test_witness_RelativeJumps :
    StopsAt (.jr_e8 0xFE) (cut (.jr_e8 0xFE) 1) 1 ∧ StopsAt (Form.jrIf .nz 0x05) (cut (Form.jrIf .nz 0x05) 1) 1 := by decide

theorem test_witness_AbsoluteJumps :
    StopsAt (.jp_a16 0x0150) (cut (.jp_a16 0x0150) 2) 2 ∧ StopsAt (Form.jpIf .c 0x0150) (cut (Form.jpIf .c 0x0150) 1) 1 := by
  decide

theorem test_witness_PushesStoreThePair :
    PairAf.af = .af ∧ (stackAt 0x0001 0x10000).f &&& 0x0F = 0 ∧ PushExists (stackAt 0x0001 0x10000) :=
  ⟨rfl, by decide, test_witness_push_exists⟩

theorem test_witness_PopsLoadThePair : PopExists (stackAt 0xFFFF 0x10000) ∧ PairAf.hl ≠ .af :=
  ⟨test_witness_pop_exists, by decide⟩

theorem test_witness_AfKeepsTheLowNibbleZero : PopExists (stackAt 0x7FFE 0x8000) := ⟨by decide, by decide⟩

theorem test_witness_CallsPushTheReturnAddress :
    StopsAt (.call_a16 0x1234) (cut (.call_a16 0x1234) 1) 1 ∧
    StopsAt (Form.callIf .z 0x1234) (cut (Form.callIf .z 0x1234) 2) 2 ∧
    PushExists (stackAt 0x0001 0x10000) ∧ holdsOn (stackAt 0x0001 0x10000) .z = true ∧
    holdsOn (stackAt 0x0001 0x10000) .nz = false :=
  ⟨by decide, by decide, test_witness_push_exists, by decide, by decide⟩

theorem test_witness_ReturnsPopThePc :
    PopExists (stackAt 0xFFFF 0x10000) ∧ holdsOn (stackAt 0xFFFF 0x10000) .c = true ∧
    holdsOn (stackAt 0xFFFF 0x10000) .nc = false :=
  ⟨test_witness_pop_exists, by decide, by decide⟩

theorem test_witness_ControlInstructions : StopsAt (.stop 0x00) (cut (.stop 0x00) 1) 1 := by decide

theorem test_witness_UnwrittenFlagsAreKept :
    (∃ t, exec .scf State.reset = .next t) ∧ writesFlag .z (Instr.scf).key = false := ⟨⟨_, rfl⟩, by decide⟩

theorem test_witness_OtherBytesAreKept :
    (∃ t, exec .push_bc State.reset = .next t) ∧ (0xFFFE : Word) ∉ storedAddresses .push_bc State.reset ∧
    (0xFFFC : Word) ∈ storedAddresses .push_bc State.reset := ⟨⟨_, rfl⟩, by decide, by decide⟩

theorem test_witness_ControlStateIsKept :
    (∃ t, exec .nop State.reset = .next t) ∧ Instr.nop ≠ .di ∧ Instr.nop ≠ .ei ∧ Instr.nop ≠ .reti :=
  ⟨⟨_, rfl⟩, by decide, by decide, by decide⟩

/-- One step of LD A,d8 at the last two bytes of a machine; one of an access out of range; one beside a request that is not
taken. -/
theorem test_witness_StepRunsTheDecodedInstruction :
    (let s := placed (small 0x102) [0x3E, 0x05]
     s.run = .running ∧ s.ime = false ∧ (∀ k, k < 2 → s.inRange (s.pc + BitVec.ofNat 16 k) = true) ∧
       decode (window s 2) = .ok (.ld_a_d8 5, []) ∧ s.cfg.implements (Instr.ld_a_d8 5).key = true ∧
       after s (fun t => t.isHalted) = some false) ∧
    (let s := placed (small 0x101) [0x7E]
     decode (window s 1) = .ok (.ld_a_at_hl, []) ∧ s.inRange s.pc = true ∧ after s (fun t => t.isHalted) = some true) ∧
    (let s := placed { presented .wake with ime := true } [0x00]
     s.run = .running ∧ s.request = .wake ∧ decode (window s 1) = .ok (.nop, [])) :=
  ⟨⟨rfl, rfl, by decide, rfl, by decide, by decide⟩, ⟨rfl, by decide, by decide⟩, rfl, by decide, rfl⟩

theorem test_witness_FetchConditionsHaltInOrder :
    (let s := small 0x100
     s.run = .running ∧ s.cfg.irqPort = false ∧ s.inRange s.pc = false) ∧
    (let s := placed (small 0x101) [0xCB]
     s.inRange s.pc = true ∧ s.byteAt s.pc = 0xCB ∧ s.inRange (s.pc + 1) = false) ∧
    (let s := placed (small 0x101) [0xD3]
     s.inRange s.pc = true ∧ s.byteAt s.pc ≠ 0xCB ∧ s.cfg.implements (.primary (s.byteAt s.pc)) = false) ∧
    (let s := placed { State.reset with cfg := { Params.default with removed := [.cb 0x37] } } [0xCB, 0x37]
     s.inRange s.pc = true ∧ s.byteAt s.pc = 0xCB ∧ s.inRange (s.pc + 1) = true ∧
       s.cfg.implements (.cb (s.byteAt (s.pc + 1))) = false) ∧
    StopsAt .ld_b_b (cut .ld_b_b 0) 0 := by decide

/-- A NOP before a frame check at the threshold and one above it. -/
theorem test_witness_FrameHookFiresAboveTheThreshold :
    (let s := placed { State.reset with cycles := 70220 } [0x00]
     fetchInstr s = .instr .nop ∧ after s (fun t => (t.cycles, t.hookCalls, t.isHalted)) = some (70224, 0, false)) ∧
    (let s := placed { State.reset with cycles := 70221 } [0x00]
     fetchInstr s = .instr .nop ∧ s.run = .running ∧ s.cfg.irqPort = false ∧ s.cfg.renderWrites = [0xFF44] ∧
       after s (fun t => (t.cycles, t.hookCalls)) = some (0, 1)) := by decide

theorem test_witness_SleepingCoresIdle :
    ({ State.reset with run := .sleeping .halt } : State).request = .none ∧
    ({ presented .none with run := .sleeping .stop } : State).request = .none ∧ State.reset.cfg.irqPort = false := by decide

theorem test_witness_InjectedCallsAreTaken :
    ((presented (.irq .timer)).request = .irq .timer ∧ (presented (.irq .timer)).run = .running ∧
      (presented (.irq .timer)).ime = false) ∧
    (let s : State := { presented (.irq .vblank) with ime := true, run := .sleeping .halt }
     s.request = .irq .vblank ∧ s.ime = true ∧ s.inRange (s.sp - 1) = true ∧ s.inRange (s.sp - 2) = true) ∧
    (let s : State := { presented (.irq .joypad) with
       ime := true, sp := 0x8001, cfg := { Params.default with irqPort := true, memSize := 0x8000 } }
     s.request = .irq .joypad ∧ s.run = .running ∧ s.inRange (s.sp - 1) = false) ∧
    (let s : State := { presented (.irq .joypad) with
       ime := true, sp := 0x0001, cfg := { Params.default with irqPort := true, memSize := 0x8000 } }
     s.request = .irq .joypad ∧ s.inRange (s.sp - 1) = true ∧ s.inRange (s.sp - 2) = false) ∧
    (let s : State := { presented (.irq .serial) with run := .sleeping .stop, ime := true }
     s.request = .irq .serial ∧ s.run = .sleeping .stop) ∧
    (let s : State := { presented (.irq .serial) with run := .sleeping .halt }
     s.request = .irq .serial ∧ s.run = .sleeping .halt ∧ s.ime = false) := by decide

theorem test_witness_WakeOnlyRuns :
    (let s : State := { presented .wake with run := .sleeping .stop }
     s.request = .wake ∧ s.run = .sleeping .stop) ∧
    (let s : State := { presented .wake with run := .sleeping .halt }
     s.request = .wake ∧ s.run = .sleeping .halt) ∧
    ((presented .wake).request = .wake ∧ (presented .wake).run = .running) := by decide

theorem test_witness_ImeAffectsNothingElse :
    (placed State.reset [0xF3]).cfg.irqPort = false ∧ ∃ t, step (placed State.reset [0xF3]) = .next t := ⟨by decide, _, rfl⟩

/-- EI sets IME, and an injected call clears it. -/
theorem test_witness_ImeHasFourWriters :
    (State.reset.ime = false ∧ after (placed State.reset [0xFB]) (fun t => t.ime) = some true) ∧
    (let s : State := { presented (.irq .vblank) with ime := true }
     s.ime = true ∧ after s (fun t => t.ime) = some false) := by decide

theorem test_witness_FatalConditionsArePreciseAndTerminal :
    after (placed State.reset [0xD3]) (fun t => t.isHalted) = some true ∧
    ({ State.reset with run := .halted (.outOfRange 0x8000) } : State).run = .halted (.outOfRange 0x8000) := by decide

theorem test_witness_LegalInstructionsComplete :
    (Instr.ld_a_at_hl).key.legal = true ∧ State.reset.FullMemory ∧ State.reset.isHalted = false :=
  ⟨by decide, rfl, by decide⟩

theorem test_witness_InstructionsAreCounted :
    (State.reset.run = .running ∧ State.reset.ime = false ∧
      after (placed State.reset [0x00]) (fun t => t.isHalted) = some false) ∧
    (∃ t, step { State.reset with run := .sleeping .halt } = .next t) := ⟨by decide, _, rfl⟩

theorem test_witness_CyclesAreBounded :
    State.reset.cfg.costs = [] ∧ (∃ t, exec .nop State.reset = .next t) ∧
    (placed State.reset [0x00]).cycles ≤ (placed State.reset [0x00]).cfg.frameCycles ∧ ∃ t, step (placed State.reset [0x00]) = .next t :=
  ⟨rfl, ⟨_, rfl⟩, by decide, _, rfl⟩

theorem test_witness_CostsDecideOnlyCycles : ∃ t, exec .ret State.reset = .next t := ⟨_, rfl⟩

theorem test_witness_EveryStepKeepsTheInvariant :
    ({ State.reset with a := 0x42, run := .sleeping .halt } : State).Inv ∧
    ∃ t, step { State.reset with a := 0x42, run := .sleeping .halt } = .next t :=
  ⟨.mk (by decide) (fun _ h => nomatch h) (by decide) (by decide) (by decide), _, rfl⟩

theorem test_witness_OnlyIllegalOpcodesEndARun :
    State.reset.FullMemory ∧ State.reset.cfg.removed = [] ∧ State.reset.isHalted = false ∧
    after (placed State.reset [0xED]) (fun t => t.isHalted) = some true := ⟨rfl, rfl, by decide, by decide⟩

end Sys2Proof.Tests
end

section
/-! The arithmetic of splitting and joining 16-bit values, which says what a pair and its registers are as numbers
(spec/10_state.md R32). -/

namespace Sys2Proof

@[simp] theorem toNat_wordOf (hi lo : Byte) : (wordOf hi lo).toNat = hi.toNat * 256 + lo.toNat := by
  have hlo : lo.toNat < 2 ^ 8 := lo.isLt
  rw [wordOf, BitVec.toNat_append, ← Nat.shiftLeft_add_eq_or_of_lt hlo, Nat.shiftLeft_eq]

@[simp] theorem toNat_hiByte (v : Word) : (hiByte v).toNat = v.toNat / 256 := by
  have hdiv : v.toNat / 256 < 2 ^ 8 := by have := v.isLt; omega
  rw [hiByte, BitVec.extractLsb'_toNat, Nat.shiftRight_eq_div_pow, Nat.mod_eq_of_lt hdiv]

@[simp] theorem toNat_loByte (v : Word) : (loByte v).toNat = v.toNat % 256 := by
  rw [loByte, BitVec.extractLsb'_toNat, Nat.shiftRight_zero]

end Sys2Proof
end

section
/-! The register pairs and the flags (spec/10_state.md R32, R35). -/

namespace Sys2Proof.Machine

/-- Settles O5: a pair is `wordOf` of its two registers and a write of it stores `hiByte` and `loByte`, so each pair's clauses
are the arithmetic of these three; the frame holds because the write is an update of the two registers. -/
theorem registerPairsAreViews : Obligations.RegisterPairsAreViews := by
  intro s v
  refine ⟨⟨?_, ?_, ?_⟩, ?bc, ?de, ?hl⟩
  · exact toNat_wordOf s.b s.c
  · exact toNat_wordOf s.d s.e
  · exact toNat_wordOf s.h s.l
  case bc => exact ⟨toNat_hiByte v, toNat_loByte v, rfl, State.bc_setBc s v⟩
  case de => exact ⟨toNat_hiByte v, toNat_loByte v, rfl, State.de_setDe s v⟩
  case hl => exact ⟨toNat_hiByte v, toNat_loByte v, rfl, State.hl_setHl s v⟩

/-- Settles O6: `getFlag_setFlag` says what every flag reads after one is set, and `lowNibble_setFlag` that the low nibble stays;
the positions of the flags are those of `Flag.bit`. -/
theorem flagsAreIndependent : Obligations.FlagsAreIndependent := by
  intro f x y v
  have same : getFlag (setFlag f x v) x = v := by
    rw [getFlag_setFlag, if_pos rfl]
  have other (hne : y ≠ x) : getFlag (setFlag f x v) y = getFlag f y := by
    rw [getFlag_setFlag, if_neg hne]
  exact ⟨same, other, lowNibble_setFlag f x v, rfl, rfl, rfl, rfl⟩

end Sys2Proof.Machine
end

section
/-! Bytes stored one after another, and construction (spec/20_memory.md R81): the byte an image of at most 2^16 bytes leaves at
each address, and that nothing but memory differs. -/

namespace Sys2Proof.Machine

/-- One byte of a run of stores: the distance `x - a` is taken modulo 2^16, so a run that wraps is covered. No later byte of
the run overwrites an earlier one because the run has at most 2^16 of them. -/
theorem State.byteAt_storeBytes (s : State) (a x : Word) (bytes : List Byte) (hlen : bytes.length ≤ 0x10000) :
    (s.storeBytes a bytes).byteAt x = bytes.getD (x - a).toNat (s.byteAt x) := by
  induction bytes generalizing s a with
  | nil => rfl
  | cons v rest ih =>
    rw [List.length_cons] at hlen
    rw [State.storeBytes, ih _ _ (by omega), State.byteAt_setByte]
    by_cases hx : x = a
    · have hfar : (x - (a + 1)).toNat = 0xFFFF := by bv_omega
      have hhead : (x - a).toNat = 0 := by bv_omega
      have hpast : rest[0xFFFF]? = none := List.getElem?_eq_none (by omega)
      rw [hfar, hhead, if_pos hx, List.getD_cons_zero, List.getD_eq_getElem?_getD, hpast, Option.getD_none]
    · have hnext : (x - a).toNat = (x - (a + 1)).toNat + 1 := by bv_omega
      rw [hnext, if_neg hx, List.getD_cons_succ]

/-- A run of stores changes memory alone. -/
theorem State.storeBytes_frame (s : State) (a : Word) (bytes : List Byte) (m : Memory) :
    { s.storeBytes a bytes with mem := m } = { s with mem := m } := by
  induction bytes generalizing s a with
  | nil => rfl
  | cons v rest ih => exact ih (s.setByte a v) (a + 1)

theorem construct_of_fits {image : List Byte} {p : Params} (hp : p.wellFormed = true) (hfit : image.length ≤ p.memSize) :
    construct image p = some ({ State.reset with cfg := p }.storeBytes 0 image) := by
  simp [construct, hp, hfit]

theorem construct_of_too_long {image : List Byte} {p : Params} (hlong : p.memSize < image.length) :
    construct image p = none := by
  simp [construct, hlong]

theorem Params.memSize_le {p : Params} (hp : p.wellFormed = true) : p.memSize ≤ 0x10000 := by
  simp only [Params.wellFormed, Bool.and_eq_true, decide_eq_true_eq] at hp
  exact hp.2

/-- Settles O8: construction stores the image from address 0 on into the reset state, whose memory lists no byte, so
`State.byteAt_storeBytes` with MEM_INIT as the byte before says what each address holds. -/
theorem imageIsLoadedAtZero : Obligations.ImageIsLoadedAtZero := by
  intro image p hp
  refine ⟨fun hfit => ⟨_, construct_of_fits hp hfit, fun x => ?bytes, ?frame⟩, construct_of_too_long⟩
  case bytes =>
    have hlen : image.length ≤ 0x10000 := Nat.le_trans hfit (Params.memSize_le hp)
    have hinit : State.byteAt { State.reset with cfg := p } x = Config.memInit x.toNat := rfl
    have hdist : x - 0 = x := BitVec.sub_zero x
    rw [State.byteAt_storeBytes _ _ _ _ hlen, hinit, hdist]
  case frame => exact State.storeBytes_frame _ 0 image []

end Sys2Proof.Machine
end

section
/-! One byte read and written (spec/20_memory.md R71, R73). -/

namespace Sys2Proof.Machine

/-- The addresses below MEM_SIZE are those that exist (R71). -/
theorem State.inRange_eq_true_iff (s : State) (x : Word) : s.inRange x = true ↔ x.toNat < s.cfg.memSize :=
  decide_eq_true_iff

/-- The addresses at or above MEM_SIZE are those that raise OutOfRange (R71). -/
theorem State.inRange_eq_false_iff (s : State) (x : Word) : s.inRange x = false ↔ s.cfg.memSize ≤ x.toNat :=
  decide_eq_false_iff_not.trans Nat.not_lt

/-- A read of another address answers the same before and after a store, OutOfRange included. -/
theorem State.read8_setByte_of_ne (s : State) {x y : Word} (v : Byte) (hne : y ≠ x) :
    (s.setByte x v).read8 y = s.read8 y := by
  rw [State.read8, State.read8, State.inRange_setByte, State.byteAt_setByte, if_neg hne]

/-- A read of the address just stored to gives the byte stored (R73). -/
theorem State.read8_setByte_same {s : State} {x : Word} (hin : s.inRange x = true) (v : Byte) :
    (s.setByte x v).read8 x = .ok v := by
  rw [State.read8_ok ((State.inRange_setByte s x x v).trans hin), State.byteAt_setByte, if_pos rfl]

/-- Settles O9: an address exists or it does not. Where it exists, the write is `State.setByte`, after which the two lemmas
above say what every read gives; where it does not, both accesses raise OutOfRange. -/
theorem readsReturnTheLastWrite : Obligations.ReadsReturnTheLastWrite := by
  intro s x y v
  refine ⟨fun hlt => ?present, fun hge => ?missing⟩
  case present =>
    have hin : s.inRange x = true := (s.inRange_eq_true_iff x).mpr hlt
    exact ⟨State.read8_ok hin, s.setByte x v, State.write8_ok hin v, State.read8_setByte_same hin v,
      State.read8_setByte_of_ne s v, rfl⟩
  case missing =>
    have hout : s.inRange x = false := (s.inRange_eq_false_iff x).mpr hge
    exact ⟨State.read8_error hout, State.write8_error hout v⟩

end Sys2Proof.Machine
end

section
/-! How many bytes decoding takes (spec/30_encoding.md R112), and the fetch of an opcode that has no entry
(spec/40_engine.md R140). -/

namespace Sys2Proof

/-- The bytes an instruction of an entry of the primary table takes: its opcode and the operand bytes the entry reads. -/
def Entry.length : Entry → Nat
  | .bare _ => 1
  | .byte _ => 2
  | .word _ => 3

/-- The primary table agrees with R112. An illegal opcode's row reads no operand and R112 does not list it, so the two agree
there as well. -/
theorem length_primaryEntry (op : Byte) : (primaryEntry op).length = opcodeLength op := by
  suffices h : ∀ n : Fin 256, (primaryEntry (BitVec.ofNat 8 n.val)).length = opcodeLength (BitVec.ofNat 8 n.val) by
    simpa using h ⟨op.toNat, op.isLt⟩
  decide +kernel

/-- Everything a decoding that succeeds can have read: 0xCB with its sub-opcode, or an opcode of the primary table with
the operand bytes of its entry. -/
theorem decode_cons_cases {op : Byte} {rest : List Byte} {i : Instr} {left : List Byte}
    (h : decode (op :: rest) = .ok (i, left)) :
    (∃ sub, op = cbByte ∧ rest = sub :: left ∧ i = cbEntry sub)
    ∨ op ≠ cbByte ∧
      ((primaryEntry op = .bare i ∧ rest = left)
      ∨ (∃ f v, primaryEntry op = .byte f ∧ rest = v :: left ∧ i = f v)
      ∨ ∃ f lo hi, primaryEntry op = .word f ∧ rest = lo :: hi :: left ∧ i = f (wordOf hi lo)) := by
  by_cases hc : op = cbByte
  · simp only [decode.eq_def, if_pos hc] at h
    match rest, h with
    | sub :: _, h => cases h; exact .inl ⟨sub, hc, rfl, rfl⟩
  · simp only [decode.eq_def, if_neg hc] at h
    refine .inr ⟨hc, ?_⟩
    cases he : primaryEntry op with
    | bare j => rw [he] at h; cases h; exact .inl ⟨rfl, rfl⟩
    | byte f =>
      rw [he] at h
      match rest, h with
      | v :: _, h => cases h; exact .inr (.inl ⟨f, v, rfl, rfl, rfl⟩)
    | word f =>
      rw [he] at h
      match rest, h with
      | lo :: hi :: _, h => cases h; exact .inr (.inr ⟨f, lo, hi, rfl, rfl, rfl⟩)

/-- Decoding takes the bytes R112 gives its first byte, and leaves the others. -/
theorem length_of_decode {op : Byte} {rest : List Byte} {i : Instr} {left : List Byte}
    (h : decode (op :: rest) = .ok (i, left)) : rest.length + 1 = left.length + opcodeLength op := by
  rw [← length_primaryEntry]
  rcases decode_cons_cases h with ⟨sub, rfl, rfl, _⟩ | ⟨_, ⟨he, rfl⟩ | ⟨f, v, he, rfl, _⟩ | ⟨f, lo, hi, he, rfl, _⟩⟩
  · rfl
  all_goals rw [he]; rfl

/-- `opcodeLength` by the lists as R112 groups them. -/
theorem opcodeLength_eq (op : Byte) : opcodeLength op =
    if op ∈ [0x06, 0x0E, 0x16, 0x1E, 0x26, 0x2E, 0x36, 0x3E] ∨ op ∈ [0xC6, 0xCE, 0xD6, 0xDE, 0xE6, 0xEE, 0xF6, 0xFE]
        ∨ op ∈ [0x18, 0x20, 0x28, 0x30, 0x38] ∨ op ∈ [0xE0, 0xF0, 0xE8, 0xF8, 0xCB, 0x10] then 2
      else if op ∈ [0x01, 0x11, 0x21, 0x31, 0x08] ∨ op ∈ [0xC2, 0xC3, 0xCA, 0xD2, 0xDA]
        ∨ op ∈ [0xC4, 0xCC, 0xCD, 0xD4, 0xDC, 0xEA, 0xFA] then 3
      else 1 := by
  simp only [← List.mem_append, opcodeLength, twoByteOpcodes, threeByteOpcodes, List.contains_iff_mem]
  rfl

theorem ne_cbByte_of_illegal {op : Byte} (h : op ∈ illegalOpcodes) : op ≠ cbByte := by
  rintro rfl
  exact absurd h (by decide)

/-- No parameters bring an illegal opcode into IMPLEMENTED (R114). -/
theorem Params.implements_of_illegal (p : Params) {op : Byte} (h : op ∈ illegalOpcodes) :
    p.implements (.primary op) = false := by
  simp [Params.implements, Key.legal, h]

namespace Machine

/-- An opcode without an entry is a fatal condition before any byte after it is fetched: the premises speak of the byte at PC
alone. -/
theorem fetchInstr_of_unimplemented {s : State} (hin : s.inRange s.pc = true) (hc : s.byteAt s.pc ≠ cbByte)
    (hk : s.cfg.implements (.primary (s.byteAt s.pc)) = false) :
    fetchInstr s = .fatal (.unimplementedOpcode (s.byteAt s.pc) s.pc false) := by
  simp [fetchInstr, State.fetch8_ok hin, hc, hk]

theorem runInstr_of_fatal {s : State} {r : FaultRecord} (h : fetchInstr s = .fatal r) : runInstr s = .next (s.halt r) := by
  rw [runInstr, h]

/-- Settles O4: `length_of_decode` is the length of a decoded instruction and `cbEntry_ok` the encoding of a CB one; an illegal
opcode is not 0xCB and has no entry under any parameters, so the fetch ends in the fatal condition at the opcode itself. -/
theorem lengthIsDecidedByTheFirstByte : Obligations.LengthIsDecidedByTheFirstByte := by
  refine ⟨fun op rest i left _ h => ?decoded, fun sub => ?cb, fun s hrun hport hin hop => ?illegal⟩
  case decoded =>
    rw [← opcodeLength_eq]
    exact length_of_decode h
  case cb =>
    rw [(cbEntry_ok sub).1]
    rfl
  case illegal =>
    have hfetch := fetchInstr_of_unimplemented hin (ne_cbByte_of_illegal hop) (s.cfg.implements_of_illegal hop)
    rw [step_of_running hrun hport, runInstr_of_fatal hfetch]
    rfl

end Machine
end Sys2Proof
end

section
/-! The instruction count (spec/10_state.md R42, spec/40_engine.md R137): one more in the state an executed instruction
completes in, and as before in every other state a step can answer. -/

namespace Sys2Proof.Machine

@[simp] theorem State.isHalted_settle (s : State) : s.settle.isHalted = s.isHalted := by
  cases hs : s.isHalted with
  | true => rw [State.settle_of_halted hs, hs]
  | false => rw [State.settle_of_not_halted hs, State.isHalted_of_run s.frameCheck_run, hs]

@[simp] theorem State.settle_icount (s : State) : s.settle.icount = s.icount := by
  cases hs : s.isHalted with
  | true => rw [State.settle_of_halted hs]
  | false => rw [State.settle_of_not_halted hs, State.frameCheck_icount]

/-- An injected call is not an instruction, whether its push succeeds or not (R379). -/
@[simp] theorem State.injectedCall_icount (s : State) (v : IrqVector) : (s.injectedCall v).icount = s.icount := by
  rcases s.injectedCall_cases v with ⟨_, _, e⟩ | ⟨x, _, e⟩ <;> rw [e] <;> rfl

/-- An instruction retires, which counts it, or ends in Halted with nothing else changed. -/
theorem exec_icount {i : Instr} {s t : State} (hs : s.isHalted = false) (h : exec i s = .next t) :
    t.icount = if t.isHalted then s.icount else s.icount + 1 := by
  rcases exec_cases i s with ⟨u, taken, hk, e⟩ | ⟨x, _, e⟩ | ⟨op, _, e⟩ <;> rw [e] at h <;> cases h
  · have hu : (u.retire i.key taken).isHalted = false :=
      Bool.eq_false_iff.mpr fun hu => Bool.eq_false_iff.mp hs (hk.running hu)
    rw [hu, State.retire_icount, hk.icount]
    rfl
  all_goals rfl

/-- The same of the fetch, the instruction and the frame check together. -/
theorem runInstr_icount {s t : State} (hs : s.isHalted = false) (h : runInstr s = .next t) :
    t.icount = if t.isHalted then s.icount else s.icount + 1 := by
  rcases runInstr_cases s with ⟨r, _, e⟩ | ⟨i, _, e⟩
  · rw [e] at h
    cases h
    rfl
  · obtain ⟨u, hu⟩ := exec_next i s
    rw [e, hu, settleOutcome_next] at h
    cases h
    rw [State.settle_icount, State.isHalted_settle]
    exact exec_icount hs hu

/-- With IME set a running core takes the call the port requests (R379). -/
theorem step_of_running_call {s : State} {v : IrqVector} (hr : s.run = .running) (hi : s.ime = true)
    (hq : s.request = .irq v) : step s = .next (s.nextBoundary.injectedCall v).settle := by
  simp [step, coreStep, hr, stepRunning, hq, hi]

/-- A running core that takes no call runs an instruction (R144). -/
theorem step_of_running_no_call {s : State} (hr : s.run = .running)
    (hno : ¬ (s.ime = true ∧ ∃ v, s.request = .irq v)) : step s = runInstr s.nextBoundary := by
  rcases step_cases s with ⟨_, hr', _⟩ | ⟨_, e⟩ | ⟨v, _, hq, hi, _⟩ | ⟨_, hr', _⟩ | ⟨hr', _⟩ | ⟨hr', _⟩
  case inr.inl => exact e
  case inr.inr.inl => exact absurd ⟨hi, v, hq⟩ hno
  all_goals exact absurd (hr.symm.trans hr') nofun

/-- A step that executes no instruction is a wake, an idle period or an injected call, and none of these is counted. -/
theorem step_icount_of_no_instr {s t : State} (h : step s = .next t)
    (hno : s.run ≠ .running ∨ s.ime = true ∧ ∃ v, s.request = .irq v) : t.icount = s.icount := by
  rcases step_cases s with ⟨_, _, e⟩ | ⟨hr, e⟩ | ⟨v, _, _, _, e⟩ | ⟨k, _, _, e⟩ | ⟨_, _, e⟩ | ⟨_, _, e⟩
  case inl => exact absurd (e.symm.trans h) nofun
  case inr.inl =>
    obtain ⟨hi, v, hq⟩ := hno.resolve_left (not_not_intro hr)
    rw [step_of_running_call hr hi hq] at h
    cases h
    simp
  all_goals
    rw [e] at h
    cases h
    simp

/-- Settles O55: a step that executes no instruction keeps the count by `step_icount_of_no_instr`; any other runs one, whose
count `runInstr_icount` gives by whether it ended in Halted. -/
theorem instructionsAreCounted : Obligations.InstructionsAreCounted := by
  intro s t h
  by_cases hno : s.run ≠ .running ∨ s.ime = true ∧ ∃ v, s.request = .irq v
  · refine ⟨fun hr _ hfree => ?_, fun _ => step_icount_of_no_instr h hno⟩
    obtain ⟨hi, v, hq⟩ := hno.resolve_left (not_not_intro hr)
    rcases hfree with hi' | hq'
    · exact absurd (hi.symm.trans hi') nofun
    · exact absurd hq (hq' v)
  · obtain ⟨hr, hcall⟩ := not_or.mp hno
    have hrun : s.run = .running := Classical.not_not.mp hr
    have hlive : s.nextBoundary.isHalted = false := by simp [State.isHalted, hrun]
    rw [step_of_running_no_call hrun hcall] at h
    have hcount := runInstr_icount hlive h
    rw [State.nextBoundary_icount] at hcount
    refine ⟨fun _ ht _ => by rw [hcount, ht]; rfl, fun hkeep => ?_⟩
    rcases hkeep with hne | ht | hc
    · exact absurd hne hr
    · rw [hcount, ht]; rfl
    · exact absurd hc hcall

end Sys2Proof.Machine
end

section
/-! What the statements of every family of instructions share: an encoding and default cost, the state a completed
instruction leaves, and the fetch one of whose bytes does not exist (spec/40_engine.md R134, R136, R142). -/

namespace Sys2Proof

theorem Instr.key_of_encode {i : Instr} {op : Byte} {rest : List Byte} (h : encode i = op :: rest) (hc : op ≠ cbByte) :
    i.key = .primary op := by
  cases rest <;> simp [Instr.key, h, hc]

theorem length_encode (i : Instr) : (encode i).length = i.key.length := by
  cases i <;> rfl

theorem Params.cost_of_no_costs {p : Params} (h : p.costs = []) (k : Key) (taken : Bool) :
    p.cost k taken = if taken then k.defaultCost.1 else k.defaultCost.2 := by
  simp [Params.cost, h]

namespace Machine

open Claim

/-- Two equations to compute for a row: its bytes, and its entry in the default cost table. -/
theorem encodes_of_defaultCost {i : Instr} {bytes : List Byte} {taken notTaken : Nat} (hbytes : encode i = bytes)
    (hcost : i.key.defaultCost = (taken, notTaken)) : Encodes i bytes taken notTaken := by
  refine ⟨hbytes, fun p hp => ?_⟩
  rw [Params.cost_of_no_costs hp, Params.cost_of_no_costs hp, hcost]
  exact ⟨rfl, rfl⟩

/-- A completed instruction moves PC past its bytes and retires. -/
theorem passed_eq (i : Instr) (taken : Bool) (s : State) :
    passed i taken s = (s.advance i.key.length).retire i.key taken := by
  rw [passed, length_encode]
  rfl

theorem passed_pc (i : Instr) (taken : Bool) (s : State) : (passed i taken s).pc = (s.advance i.key.length).pc := by
  rw [passed_eq, State.retire_pc]

theorem holdsOn_eq_cond (s : State) (cc : Cond) : holdsOn s cc = s.cond cc := by
  cases cc <;> simp [holdsOn, State.cond]

theorem performIf_of_holds {s : State} {cc : Cond} (h : holdsOn s cc = true) (k : Key) (rule : State → Access State) :
    performIf k (s.cond cc) rule s = performTaken k true rule s := by
  rw [← holdsOn_eq_cond, h]
  rfl

theorem performIf_of_fails {s : State} {cc : Cond} (h : holdsOn s cc = false) (i : Instr) (rule : State → Access State) :
    performIf i.key (s.cond cc) rule s = .next (passed i false s) := by
  rw [← holdsOn_eq_cond, h, passed_eq]
  rfl

theorem State.fetch16_error_low {s : State} (h : s.inRange s.pc = false) : s.fetch16 = .error s.pc := by
  simp only [State.fetch16, State.fetch8_error h, bind, Except.bind]

theorem State.fetch16_error_high {s : State} (hlo : s.inRange s.pc = true) (hhi : s.inRange (s.pc + 1) = false) :
    s.fetch16 = .error (s.pc + 1) := by
  have hsnd : (s.setPc (s.pc + 1)).fetch8 = .error (s.pc + 1) := State.fetch8_error hhi
  simp only [State.fetch16, State.fetch8_ok hlo, hsnd, bind, Except.bind]

theorem fetchInstr_of_no_opcode {s : State} (h : s.inRange s.pc = false) : fetchInstr s = .fatal (.outOfRange s.pc) := by
  simp only [fetchInstr, State.fetch8_error h]

theorem fetchInstr_of_cb {s : State} (hin : s.inRange s.pc = true) (hop : s.byteAt s.pc = cbByte) :
    fetchInstr s = fetchSub s.pc (s.setPc (s.pc + 1)) := by
  simp only [fetchInstr, State.fetch8_ok hin, hop, if_true]

theorem fetchInstr_of_opcode {s : State} {op : Byte} (hin : s.inRange s.pc = true) (hop : s.byteAt s.pc = op)
    (hc : op ≠ cbByte) (hk : s.cfg.implements (.primary op) = true) :
    fetchInstr s = fetchOperand (primaryEntry op) (s.setPc (s.pc + 1)) := by
  simp only [fetchInstr, State.fetch8_ok hin, hop, if_neg hc, hk, if_true]

/-- The first byte of a window that is not empty is the opcode. -/
theorem byteAt_pc_of_window {s : State} {n : Nat} {op : Byte} {rest : List Byte} (h : window s (n + 1) = op :: rest) :
    s.byteAt s.pc = op := by
  rw [window, List.range_succ_eq_map] at h
  simpa using (List.cons.inj h).1

/-- A fetch ends at the first byte of the instruction that does not exist: the opcode's, or, by the layout of the
instruction, the sub-opcode's or an operand's. -/
theorem fetchInstr_of_missing {i : Instr} {s : State} {k : Nat} (himp : s.cfg.implements i.key = true)
    (hk : k < (encode i).length) (hw : window s k = (encode i).take k) (hex : WindowExists s k)
    (hout : s.inRange (s.pc + BitVec.ofNat 16 k) = false) :
    fetchInstr s = .fatal (.outOfRange (s.pc + BitVec.ofNat 16 k)) := by
  have hzero : s.pc + BitVec.ofNat 16 0 = s.pc := BitVec.add_zero s.pc
  cases k with
  | zero =>
    rw [hzero] at hout ⊢
    exact fetchInstr_of_no_opcode hout
  | succ k =>
    have hin : s.inRange s.pc = true := hzero ▸ hex 0 k.succ_pos
    rcases layout i with ⟨sub, h⟩ | ⟨op, hc, h⟩ | ⟨op, v, f, hc, h, hf⟩ | ⟨op, lo, hi, f, hc, h, hf⟩ <;>
      rw [h] at hk hw <;> have hop := byteAt_pc_of_window hw
    case cb =>
      change k + 1 < 2 at hk
      obtain rfl : k = 0 := by omega
      rw [fetchInstr_of_cb hin hop, fetchSub, State.fetch8_error (s := s.setPc (s.pc + 1)) hout]
      rfl
    case bare =>
      change k + 1 < 1 at hk
      omega
    all_goals
      rw [Instr.key_of_encode h hc] at himp
      rw [fetchInstr_of_opcode hin hop hc himp, hf, fetchOperand]
    case byte =>
      change k + 1 < 2 at hk
      obtain rfl : k = 0 := by omega
      rw [State.fetch8_error (s := s.setPc (s.pc + 1)) hout]
      rfl
    case word =>
      match k with
      | 0 =>
        rw [State.fetch16_error_low (s := s.setPc (s.pc + 1)) hout]
        rfl
      | 1 =>
        have haddr : s.pc + BitVec.ofNat 16 2 = s.pc + 1 + 1 := (State.sp_add_two s.pc).symm
        rw [haddr] at hout ⊢
        rw [State.fetch16_error_high (s := s.setPc (s.pc + 1)) (hex 1 (by decide)) hout]
        rfl
      | k + 2 =>
        change k + 2 + 1 < 3 at hk
        omega

/-- With the port tied off, the missing byte ends the step of a running core. -/
theorem fetchStops (i : Instr) : FetchStops i := by
  intro s k hrun hport himp hk hw hex hout
  rw [step_of_running hrun hport, runInstr_of_fatal (fetchInstr_of_missing himp hk hw hex hout)]
  rfl

end Machine
end Sys2Proof
end

section
/-! Stack, call and return instructions (spec/41_stack_calls.md): what a push or a pop whose byte does not exist answers, the
rule each family of rows runs, and the state a push, a pop, a call and a return leave. -/

namespace Sys2Proof.Machine

open Claim

/-! The first stack byte that does not exist. -/

theorem State.push16_error_high {s : State} (h : s.inRange (s.sp - 1) = false) (v : Word) :
    s.push16 v = .error (s.sp - 1) := by
  rcases s.push16_cases v with ⟨h', _⟩ | ⟨_, e⟩ | ⟨h', _⟩
  case inr.inl => exact e
  all_goals exact absurd (h'.symm.trans h) nofun

theorem State.push16_error_low {s : State} (hhi : s.inRange (s.sp - 1) = true) (hlo : s.inRange (s.sp - 2) = false)
    (v : Word) : s.push16 v = .error (s.sp - 2) := by
  rcases s.push16_cases v with ⟨_, h', _⟩ | ⟨h', _⟩ | ⟨_, _, e⟩
  · exact absurd (h'.symm.trans hlo) nofun
  · exact absurd (h'.symm.trans hhi) nofun
  · exact e

theorem State.pop16_error_low {s : State} (h : s.inRange s.sp = false) : s.pop16 = .error s.sp := by
  rcases s.pop16_cases with ⟨h', _⟩ | ⟨_, e⟩ | ⟨h', _⟩
  case inr.inl => exact e
  all_goals exact absurd (h'.symm.trans h) nofun

theorem State.pop16_error_high {s : State} (hlo : s.inRange s.sp = true) (hhi : s.inRange (s.sp + 1) = false) :
    s.pop16 = .error (s.sp + 1) := by
  rcases s.pop16_cases with ⟨_, h', _⟩ | ⟨h', _⟩ | ⟨_, _, e⟩
  · exact absurd (h'.symm.trans hhi) nofun
  · exact absurd (h'.symm.trans hlo) nofun
  · exact e

/-- An instruction whose rule fails where its push fails stops as a push stops. -/
theorem pushStops_of_rule {i : Instr} {s : State} {rule : State → Access State} {v : Word}
    (h : exec i s = performTaken i.key true rule s)
    (hfail : ∀ {x}, (s.advance i.key.length).push16 v = .error x → rule (s.advance i.key.length) = .error x) :
    PushStops s (exec i s) :=
  ⟨fun hhi => exec_error h (hfail (State.push16_error_high (s := s.advance _) hhi v)),
    fun hhi hlo => exec_error h (hfail (State.push16_error_low (s := s.advance _) hhi hlo v))⟩

/-- An instruction whose rule fails where its pop fails stops as a pop stops. -/
theorem popStops_of_rule {i : Instr} {s : State} {rule : State → Access State}
    (h : exec i s = performTaken i.key true rule s)
    (hfail : ∀ {x}, (s.advance i.key.length).pop16 = .error x → rule (s.advance i.key.length) = .error x) :
    PopStops s (exec i s) :=
  ⟨fun hlo => exec_error h (hfail (State.pop16_error_low (s := s.advance _) hlo)),
    fun hlo hhi => exec_error h (hfail (State.pop16_error_high (s := s.advance _) hlo hhi))⟩

/-! What a push leaves, past an instruction's bytes: the two bytes stored, which are the word and the bytes a pop then finds. -/

theorem storesPushed_pushed (s : State) (n : Nat) (v : Word) :
    StoresPushed s ((s.advance n).pushed v) (hiByte v) (loByte v) := by
  intro x
  rw [State.byteAt_pushed, State.advance_sp, State.byteAt_advance]

theorem State.sp_sub_two_add_one (x : Word) : x - 2 + 1 = x - 1 := by bv_omega

theorem State.top_pushed (s : State) (v : Word) : (s.pushed v).top = v := by
  have hne : s.sp - 1 ≠ s.sp - 2 := by bv_omega
  rw [State.top, State.pushed_sp, State.sp_sub_two_add_one, State.byteAt_pushed, State.byteAt_pushed, if_neg hne, if_pos rfl,
    if_pos rfl, wordOf_hiByte_loByte]

theorem popExists_pushed {s : State} (hs : PushExists s) (v : Word) : PopExists (s.pushed v) := by
  obtain ⟨hhi, hlo⟩ := hs
  exact ⟨hlo, (State.sp_sub_two_add_one s.sp).symm ▸ hhi⟩

/-! The pairs of R16af as two bytes. -/

theorem hiByte_pairAf (s : State) (p : PairAf) : hiByte (s.pairAf p) = (pairAfBytes s p).1 := by
  cases p <;> exact hiByte_wordOf _ _

theorem loByte_pairAf (s : State) (p : PairAf) : loByte (s.pairAf p) = (pairAfBytes s p).2 := by
  cases p <;> exact loByte_wordOf _ _

/-! The rule each family of rows runs. -/

theorem exec_push (p : PairAf) (s : State) :
    exec (Form.push p) s = performTaken (Form.push p).key true (pushPair p) s := by
  cases p <;> rfl

theorem exec_pop (p : PairAf) (s : State) :
    exec (Form.pop p) s = performTaken (Form.pop p).key true (popPair p) s := by
  cases p <;> rfl

theorem exec_callIf (cc : Cond) (x : Word) (s : State) :
    exec (Form.callIf cc x) s = performIf (Form.callIf cc x).key (s.cond cc) (call x) s := by
  cases cc <;> rfl

theorem exec_rst (y : Fin 8) (s : State) :
    exec (Form.rst y) s = performTaken (Form.rst y).key true (call (BitVec.ofNat 16 (8 * y.val))) s := by
  match y with
  | 0 | 1 | 2 | 3 | 4 | 5 | 6 | 7 => rfl

theorem exec_retIf (cc : Cond) (s : State) :
    exec (Form.retIf cc) s = performIf (Form.retIf cc).key (s.cond cc) ret s := by
  cases cc <;> rfl

/-! PUSH and POP. -/

/-- PUSH rr where both bytes exist (R164). -/
theorem exec_push_ok (p : PairAf) {s : State} (hs : PushExists s) :
    ∃ t, exec (Form.push p) s = .next t ∧ t.sp = s.sp - 2 ∧
      StoresPushed s t (pairAfBytes s p).1 (pairAfBytes s p).2 ∧
      { t with sp := s.sp, mem := s.mem } = passed (Form.push p) true s := by
  obtain ⟨hhi, hlo⟩ := hs
  have hpush := State.push16_ok (s := s.advance (Form.push p).key.length) hhi hlo
  have hpair : (s.advance (Form.push p).key.length).pairAf p = s.pairAf p := by cases p <;> rfl
  refine ⟨_, exec_ok (exec_push p s) (hpush _), by simp, fun x => ?bytes, ?frame⟩
  case bytes =>
    rw [State.byteAt_retire, hpair, ← hiByte_pairAf, ← loByte_pairAf]
    exact storesPushed_pushed s _ _ x
  case frame => simp [passed, length_encode]

/-- POP BC, POP DE and POP HL where both bytes exist (R165). -/
theorem exec_pop_ok {p : PairAf} (hp : p ≠ .af) {s : State} (hs : PopExists s) :
    ∃ t, exec (Form.pop p) s = .next t ∧ t.sp = s.sp + 2 ∧
      pairAfBytes t p = (s.byteAt (s.sp + 1), s.byteAt s.sp) ∧
      { t.setPairAf p (s.pairAf p) with sp := s.sp, f := s.f } = passed (Form.pop p) true s ∧ t.f = s.f := by
  obtain ⟨hlo, hhi⟩ := hs
  have hpop := popPair_ok p (s := s.advance (Form.pop p).key.length) hlo hhi
  refine ⟨_, exec_ok (exec_pop p s) hpop, by simp, ?_⟩
  cases p
  case af => exact absurd rfl hp
  all_goals
    simp [passed, length_encode, pairAfBytes, State.top, State.setPairAf, State.pairAf, State.bc, State.de, State.hl]

/-! Calls and returns. -/

/-- A call taken where both bytes exist (R167): PC, past the instruction, is pushed. -/
theorem exec_call_ok {i : Instr} {target : Word} {s : State} (h : exec i s = performTaken i.key true (call target) s)
    (hs : PushExists s) :
    exec i s = .next ((((s.advance i.key.length).pushed (s.advance i.key.length).pc).setPc target).retire i.key true) := by
  obtain ⟨hhi, hlo⟩ := hs
  exact exec_ok h (call_ok target (s := s.advance i.key.length) hhi hlo)

/-- A return taken where both bytes exist (R169): PC is the word at SP. -/
theorem exec_ret_ok {i : Instr} {s : State} (h : exec i s = performTaken i.key true ret s) (hs : PopExists s) :
    exec i s = .next ((((s.advance i.key.length).setSp (s.sp + 2)).setPc s.top).retire i.key true) := by
  obtain ⟨hlo, hhi⟩ := hs
  exact exec_ok h (ret_ok (s := s.advance i.key.length) hlo hhi)

/-- All a call taken does: it stops where a push stops, and else leaves what `Called` says. -/
theorem exec_call_spec {i : Instr} {target : Word} {s : State} (h : exec i s = performTaken i.key true (call target) s) :
    PushStops s (exec i s) ∧ (PushExists s → ∃ t, exec i s = .next t ∧ Called i s t target) := by
  refine ⟨pushStops_of_rule h call_error, fun hs => ⟨_, exec_call_ok h hs, by simp, by simp, fun x => ?bytes, ?frame⟩⟩
  case bytes =>
    rw [State.byteAt_retire, State.byteAt_setPc, passed_pc]
    exact storesPushed_pushed s _ _ x
  case frame => simp [passed]

/-- All a return taken does: it stops where a pop stops, and else leaves what `Returned` says. -/
theorem exec_ret_spec {i : Instr} {s : State} (h : exec i s = performTaken i.key true ret s) :
    PopStops s (exec i s) ∧ (PopExists s → ∃ t, exec i s = .next t ∧ Returned i s t) := by
  refine ⟨popStops_of_rule h ret_error, fun hs => ⟨_, exec_ret_ok h hs, ?pc, by simp, ?frame⟩⟩
  case pc => simp [State.top]
  case frame => simp [passed]

/-- RETI is a return that sets IME (R171). -/
theorem exec_reti_spec (s : State) :
    PopStops s (exec .reti s) ∧
      (PopExists s → ∃ t, exec .reti s = .next t ∧ t.ime = true ∧ Returned .reti s { t with ime := s.ime }) := by
  have h : exec .reti s = performTaken Instr.reti.key true retEnable s := rfl
  refine ⟨popStops_of_rule h retEnable_error, fun ⟨hlo, hhi⟩ => ?_⟩
  have hret := retEnable_ok (s := s.advance Instr.reti.key.length) hlo hhi
  refine ⟨_, exec_ok h hret, by simp, ?pc, by simp, ?frame⟩
  case pc => simp [State.top]
  case frame => simp [passed]

/-- A call and then a return: the return pops the word the call pushed (R167). -/
theorem call_then_ret {s : State} (x : Word) (hs : PushExists s) :
    ∃ t u, exec (.call_a16 x) s = .next t ∧ exec .ret t = .next u ∧ u.pc = s.pc + 3 ∧ u.sp = s.sp ∧
      { u with mem := s.mem, pc := s.pc, cycles := s.cycles, icount := s.icount } = s := by
  have hpop : PopExists ((s.advance 3).pushed (s.pc + 3)) := popExists_pushed (s := s.advance 3) hs _
  have htop : ((s.advance 3).pushed (s.pc + 3)).top = s.pc + 3 := State.top_pushed _ _
  refine ⟨_, _, exec_call_ok rfl hs, exec_ret_ok rfl hpop, ?pc, ?sp, ?frame⟩
  case pc => exact htop
  case sp => exact BitVec.sub_add_cancel s.sp 2
  case frame =>
    simp only [State.retire_sp, State.setPc_sp, State.setSp_sp, State.pushed_sp, State.advance_sp, BitVec.sub_add_cancel]
    simp

/-- Settles O35: every PUSH runs `pushPair`, so it stops where its push stops, and `exec_push_ok` says the rest; the byte at
SP - 2 after PUSH AF is F. -/
theorem pushesStoreThePair : Obligations.PushesStoreThePair := by
  intro p
  refine ⟨by cases p <;> exact encodes_of_defaultCost rfl rfl, fun s => ⟨pushStops_of_rule (exec_push p s) id, fun hs => ?_⟩⟩
  obtain ⟨t, ht, hsp, hmem, hframe⟩ := exec_push_ok p hs
  refine ⟨t, ht, hsp, hmem, ?_, hframe⟩
  rintro rfl hf
  rw [hmem, if_pos rfl]
  exact hf

/-- Settles O36: every POP runs `popPair`, so it stops where its pop stops, and `exec_pop_ok` says the rest. -/
theorem popsLoadThePair : Obligations.PopsLoadThePair := by
  intro p hp
  refine ⟨by cases p <;> exact encodes_of_defaultCost rfl rfl, fun s => ⟨?_, exec_pop_ok hp⟩⟩
  exact popStops_of_rule (exec_pop p s) (popPair_error p)

/-- Settles O38: CALL, CALL cc with its condition holding and RST run `call`, of which `exec_call_spec` says everything. -/
theorem callsPushTheReturnAddress : Obligations.CallsPushTheReturnAddress := by
  refine ⟨fun x => ⟨?call, fun cc => ?callIf⟩, fun y => ?rst, fun s x => call_then_ret x⟩
  case call => exact ⟨encodes_of_defaultCost rfl rfl, fetchStops _, fun s => exec_call_spec rfl⟩
  case callIf =>
    refine ⟨by cases cc <;> exact encodes_of_defaultCost rfl rfl, fetchStops _, fun s => ⟨fun h => ?_, fun h => ?_⟩⟩
    · exact exec_call_spec ((exec_callIf cc x s).trans (performIf_of_holds h _ _))
    · exact (exec_callIf cc x s).trans (performIf_of_fails h _ _)
  case rst =>
    refine ⟨?_, fun s => exec_call_spec (exec_rst y s)⟩
    match y with
    | 0 | 1 | 2 | 3 | 4 | 5 | 6 | 7 => exact encodes_of_defaultCost rfl rfl

/-- Settles O39: RET and RET cc with its condition holding run `ret`, of which `exec_ret_spec` says everything; RETI runs
`retEnable`, which `exec_reti_spec` covers. -/
theorem returnsPopThePc : Obligations.ReturnsPopThePc := by
  refine ⟨⟨encodes_of_defaultCost rfl rfl, fun s => exec_ret_spec rfl⟩, fun cc => ?retIf,
    encodes_of_defaultCost rfl rfl, exec_reti_spec⟩
  refine ⟨by cases cc <;> exact encodes_of_defaultCost rfl rfl, fun s => ⟨fun h => ?_, fun h => ?_⟩⟩
  · exact exec_ret_spec ((exec_retIf cc s).trans (performIf_of_holds h _ _))
  · exact (exec_retIf cc s).trans (performIf_of_fails h _ _)

end Sys2Proof.Machine
end

section
/-! Jumps (spec/42_jumps.md): the rule each family of rows runs, the target of a relative jump as a number (R190), and the state
a jump taken leaves. -/

namespace Sys2Proof

open Claim

/-- A displacement byte, sign-extended, is the integer it stands for modulo 2^16. -/
theorem toNat_sext16 (e : Byte) : ((sext16 e).toNat : Int) = signedValue e % 65536 := by
  have he := e.isLt
  have hext : (sext16 e).toNat = e.toNat + if 128 ≤ e.toNat then 0xFF00 else 0 := by
    rw [sext16, BitVec.toNat_signExtend, BitVec.toNat_setWidth_of_le (by decide), BitVec.msb_eq_decide]
    simp
  rw [hext, signedValue]
  by_cases hsign : e.toNat < 128
  · rw [if_pos hsign, if_neg (Nat.not_le.mpr hsign)]
    omega
  · rw [if_neg hsign, if_pos (Nat.not_lt.mp hsign)]
    omega

/-- A sign-extended displacement added to an address moves it by the integer the byte stands for, modulo 2^16. -/
theorem toNat_add_sext16 (x : Word) (e : Byte) :
    ((x + sext16 e).toNat : Int) = (x.toNat + signedValue e) % 65536 := by
  rw [BitVec.toNat_add, Int.natCast_emod, Int.natCast_add, toNat_sext16]
  exact Int.add_emod_emod _ _ _

namespace Machine

/-! The rule each conditional family of rows runs. -/

theorem exec_jrIf (cc : Cond) (e : Byte) (s : State) :
    exec (Form.jrIf cc e) s = performIf (Form.jrIf cc e).key (s.cond cc) (jumpRelative e) s := by
  cases cc <;> rfl

theorem exec_jpIf (cc : Cond) (x : Word) (s : State) :
    exec (Form.jpIf cc x) s = performIf (Form.jpIf cc x).key (s.cond cc) (jump x) s := by
  cases cc <;> rfl

/-- A rule that only sets PC leaves the state past the instruction with PC at the rule's target. -/
theorem exec_setPc_ok {i : Instr} {rule : State → Access State} {target : Word} {s : State}
    (h : exec i s = performTaken i.key true rule s)
    (hr : rule (s.advance i.key.length) = .ok ((s.advance i.key.length).setPc target)) :
    exec i s = .next { passed i true s with pc := target } := by
  rw [exec_ok h hr, passed_eq]
  rfl

/-- All a relative jump of two bytes does when it is taken (R190): PC is moved by the displacement from the address after
the instruction, and nothing else differs from the state past it. -/
theorem exec_jumpRelative_spec {i : Instr} {e : Byte} {s : State} (hlen : i.key.length = 2)
    (h : exec i s = performTaken i.key true (jumpRelative e) s) :
    ∃ t, exec i s = .next t ∧ (t.pc.toNat : Int) = (s.pc.toNat + 2 + signedValue e) % 65536 ∧
      { t with pc := (passed i true s).pc } = passed i true s := by
  refine ⟨_, exec_setPc_ok h rfl, ?_, rfl⟩
  have hnext : ((s.pc + 2).toNat : Int) = (s.pc.toNat + 2) % 65536 := by
    rw [BitVec.toNat_add]
    rfl
  calc ((s.pc + BitVec.ofNat 16 i.key.length + sext16 e).toNat : Int)
      = ((s.pc + 2).toNat + signedValue e) % 65536 := by rw [hlen]; exact toNat_add_sext16 _ e
    _ = (s.pc.toNat + 2 + signedValue e) % 65536 := by rw [hnext]; exact Int.emod_add_emod _ _ _

/-- Settles O33: JR and JR cc with its condition holding run `jumpRelative`, of which `exec_jumpRelative_spec` says
everything. -/
theorem relativeJumps : Obligations.RelativeJumps := by
  refine fun e => ⟨⟨encodes_of_defaultCost rfl rfl, fetchStops _, fun s => exec_jumpRelative_spec rfl rfl⟩, fun cc => ?_⟩
  have hlen : (Form.jrIf cc e).key.length = 2 := by cases cc <;> rfl
  refine ⟨by cases cc <;> exact encodes_of_defaultCost rfl rfl, fetchStops _, fun s => ⟨fun h => ?_, fun h => ?_⟩⟩
  · exact exec_jumpRelative_spec hlen ((exec_jrIf cc e s).trans (performIf_of_holds h _ _))
  · exact (exec_jrIf cc e s).trans (performIf_of_fails h _ _)

/-- Settles O34: JP, JP cc with its condition holding and JP HL run a rule that only sets PC, so `exec_setPc_ok` says all they
do; HL is `wordOf` of its two registers. -/
theorem absoluteJumps : Obligations.AbsoluteJumps := by
  refine ⟨fun x => ⟨?jp, fun cc => ?jpIf⟩, encodes_of_defaultCost rfl rfl, fun s => ?jpHl⟩
  case jp => exact ⟨encodes_of_defaultCost rfl rfl, fetchStops _, fun s => exec_setPc_ok (rule := jump x) rfl rfl⟩
  case jpIf =>
    refine ⟨by cases cc <;> exact encodes_of_defaultCost rfl rfl, fetchStops _, fun s => ⟨fun h => ?_, fun h => ?_⟩⟩
    · exact exec_setPc_ok ((exec_jpIf cc x s).trans (performIf_of_holds h _ _)) rfl
    · exact (exec_jpIf cc x s).trans (performIf_of_fails h _ _)
  case jpHl =>
    have hjump : exec .jp_hl s = .next { passed .jp_hl true s with pc := s.hl } :=
      exec_setPc_ok (rule := jumpHl) rfl rfl
    exact ⟨_, hjump, toNat_wordOf s.h s.l, rfl⟩

end Machine
end Sys2Proof
end

section
/-! 8-bit arithmetic and logic (spec/43_alu8.md): operands and flags as the statements read them, the results of the ALU
primitives as numbers (R210, R211, R221, R222), and the rule each family of rows runs. -/

namespace Sys2Proof.Machine

open Claim

/-! Operands: what is read, and the place that is written (spec/30_encoding.md R102). -/

@[simp] theorem value_advance (s : State) (n : Nat) (x : Src) : value (s.advance n) x = value s x := by
  rcases x with (r | _) | v
  · cases r <;> rfl
  · rfl
  · rfl

@[simp] theorem present_advance (s : State) (n : Nat) (x : Src) : present (s.advance n) x = present s x := by
  rcases x with (_ | _) | _ <;> rfl

theorem State.readSrc_ok {s : State} {x : Src} (h : present s x = true) : s.readSrc x = .ok (value s x) := by
  rcases x with (r | _) | v
  · rfl
  · exact State.read8_ok h
  · rfl

/-- The one operand that can be missing is the byte at HL. -/
theorem State.readSrc_error {s : State} {x : Src} (h : present s x = false) : s.readSrc x = .error s.hl := by
  rcases x with (r | _) | v
  · exact absurd h nofun
  · exact State.read8_error h
  · exact absurd h nofun

/-- The state with a byte in an operand's place. -/
def State.putLoc (s : State) : Loc → Byte → State
  | .reg r, v => s.setReg r v
  | .atHl, v => s.setByte s.hl v

theorem State.writeLoc_ok {s : State} {x : Loc} (h : present s (.loc x) = true) (v : Byte) :
    s.writeLoc x v = .ok (s.putLoc x v) := by
  cases x with
  | reg r => rfl
  | atHl => exact State.write8_ok h v

@[simp] theorem State.putLoc_f (s : State) (x : Loc) (v : Byte) : (s.putLoc x v).f = s.f := by
  rcases x with r | _
  · cases r <;> rfl
  · rfl

/-- A rule that puts a byte in an operand's place and then writes flags rewrites that place alone. -/
theorem rewritten_putLoc (i : Instr) (s : State) (x : Loc) (v : Byte) (z n h c : Option Bool) :
    Rewritten i s ((((s.advance i.key.length).putLoc x v).withFlags z n h c).retire i.key true) x v := by
  rw [Rewritten.eq_def, passed_eq]
  rcases x with r | _
  · cases r <;> exact ⟨rfl, rfl⟩
  · exact ⟨fun y => State.byteAt_setByte (s.advance _) s.hl y v, rfl⟩

/-! The flags after `withFlags`. -/

/-- Writing flags gives those named, keeps the others and F's low nibble; what else the instruction writes does not matter,
as long as F is untouched before and after. -/
theorem flagsAre_withFlags {s u t : State} {z n h c : Option Bool} (hu : u.f = s.f) (ht : t.f = (u.withFlags z n h c).f) :
    FlagsAre s t (z.getD (s.flag .z)) (n.getD (s.flag .n)) (h.getD (s.flag .h)) (c.getD (s.flag .c)) := by
  rw [FlagsAre]
  simp only [State.flag_of_f ht, ← State.flag_of_f hu, ht, ← hu]
  exact ⟨State.flag_withFlags_z .., State.flag_withFlags_n .., State.flag_withFlags_h .., State.flag_withFlags_c ..,
    State.lowNibble_withFlags ..⟩

/-- A zero test of a byte as one of its number. -/
theorem beq_zero_eq_decide (v : Byte) : (v == 0) = decide (v.toNat = 0) := by
  rw [Bool.eq_iff_iff, beq_iff_eq, decide_eq_true_iff]
  exact BitVec.toNat_inj.symm

/-! The rules of the eight ALU operations. -/

theorem exec_alu (op : AluOp) (x : Src) (s : State) :
    exec (Form.alu op x) s = performTaken (Form.alu op x).key true (alu op x) s := by
  rcases x with (r | _) | v
  · cases op <;> cases r <;> rfl
  · cases op <;> rfl
  · cases op <;> rfl

/-- The field y of an ALU operation (R212). -/
def aluCode : AluOp → Nat
  | .add => 0
  | .adc => 1
  | .sub => 2
  | .sbc => 3
  | .and => 4
  | .xor => 5
  | .or => 6
  | .cp => 7

theorem encodes_alu (op : AluOp) (x : Src) :
    Encodes (Form.alu op x) (aluBytes (aluCode op) x) (aluCost x) (aluCost x) := by
  rcases x with (r | _) | v
  · cases op <;> cases r <;> exact encodes_of_defaultCost rfl rfl
  · cases op <;> exact encodes_of_defaultCost rfl rfl
  · cases op <;> exact encodes_of_defaultCost rfl rfl

theorem alu_ok (op : AluOp) {x : Src} {s : State} (h : present s x = true) :
    alu op x s = .ok (aluValue op (value s x) s) := by
  rw [alu, State.readSrc_ok h]
  rfl

theorem alu_error (op : AluOp) {x : Src} {s : State} (h : present s x = false) : alu op x s = .error s.hl := by
  rw [alu, State.readSrc_error h]
  rfl

theorem exec_alu_ok (op : AluOp) {x : Src} {s : State} (h : present s x = true) :
    exec (Form.alu op x) s = .next
      ((aluValue op (value s x) (s.advance (Form.alu op x).key.length)).retire (Form.alu op x).key true) := by
  have hrule := alu_ok op (s := s.advance (Form.alu op x).key.length) ((present_advance s _ x).trans h)
  rw [value_advance] at hrule
  exact exec_ok (exec_alu op x s) hrule

theorem aluStops (op : AluOp) (x : Src) (s : State) : AluStops op x s := by
  intro h
  exact exec_error (exec_alu op x s) (alu_error op (s := s.advance (Form.alu op x).key.length)
    ((present_advance s _ x).trans h))

/-- The seven operations that write A: the result, given as a number, decides Z; N, H and C are those given. -/
theorem aluResult_of_setResult {op : AluOp} {x : Src} {s : State} {r : Byte} {m : Nat} {n h c : Bool}
    (hx : present s x = true) (hr : r.toNat = m)
    (hop : ∀ k, aluValue op (value s x) (s.advance k) = (s.advance k).setResult r n h c) :
    AluResult op x s m n h c := by
  subst hr
  have hexec := exec_alu_ok op hx
  rw [hop] at hexec
  refine ⟨_, hexec, rfl, ?flags, ?frame⟩
  case flags =>
    rw [← beq_zero_eq_decide]
    exact flagsAre_withFlags (u := (s.advance _).setReg .a r) (z := some _) (n := some n) (h := some h) (c := some c) rfl rfl
  case frame =>
    rw [passed_eq]
    rfl

/-! Addition and subtraction as numbers (R210, R211). -/

theorem toNat_add8 (a v : Byte) (c : Bool) : (add8 a v c).r.toNat = (a.toNat + v.toNat + c.toNat) % 256 :=
  BitVec.toNat_ofNat _ 8

theorem toNat_sub8 (a v : Byte) (c : Bool) : (sub8 a v c).r.toNat = (a.toNat + 512 - v.toNat - c.toNat) % 256 := by
  have hc : c.toNat < 2 := c.toNat_lt
  have hv := v.isLt
  rw [sub8, BitVec.toNat_sub, BitVec.toNat_sub, BitVec.toNat_ofNat]
  omega

theorem toNat_sub8_false (a v : Byte) : (sub8 a v false).r.toNat = (a.toNat + 256 - v.toNat) % 256 := by
  have hv := v.isLt
  rw [toNat_sub8, Bool.toNat_false]
  omega

/-- A subtraction without a borrow is zero where its operands are equal. -/
theorem beq_zero_sub8 (a v : Byte) : ((sub8 a v false).r == 0) = decide (a.toNat = v.toNat) := by
  have ha := a.isLt
  have hv := v.isLt
  rw [beq_zero_eq_decide, toNat_sub8_false, decide_eq_decide]
  omega

/-- Settles O19: ADD and ADC are the results of `add8` on A and the operand, without and with C. -/
theorem additionAndFlags : Obligations.AdditionAndFlags := by
  intro x
  refine ⟨encodes_alu .add x, fetchStops _, encodes_alu .adc x, fetchStops _, fun s => ⟨aluStops _ x s, aluStops _ x s, ?_⟩⟩
  intro hx a v c
  have hc : c = (s.flag .c).toNat := (Bool.cond_eq_ite _ 1 0).symm
  rw [hc]
  exact ⟨aluResult_of_setResult hx (toNat_add8 s.a (value s x) false) fun _ => rfl,
    aluResult_of_setResult hx (toNat_add8 s.a (value s x) (s.flag .c)) fun _ => rfl⟩

/-- Settles O20: SUB, SBC and CP are the results of `sub8` on A and the operand; CP writes only their flags. -/
theorem subtractionAndFlags : Obligations.SubtractionAndFlags := by
  intro x
  refine ⟨encodes_alu .sub x, fetchStops _, encodes_alu .sbc x, fetchStops _, encodes_alu .cp x, fetchStops _,
    fun s => ⟨aluStops _ x s, aluStops _ x s, aluStops _ x s, ?_⟩⟩
  intro hx a v c
  have hc : c = (s.flag .c).toNat := (Bool.cond_eq_ite _ 1 0).symm
  rw [hc]
  refine ⟨aluResult_of_setResult hx (toNat_sub8_false s.a (value s x)) fun _ => rfl,
    aluResult_of_setResult hx (toNat_sub8 s.a (value s x) (s.flag .c)) fun _ => rfl,
    _, exec_alu_ok .cp hx, ?cpFlags, ?cpFrame⟩
  case cpFlags =>
    rw [← beq_zero_sub8]
    exact flagsAre_withFlags (u := s.advance _) (z := some _) (n := some _) (h := some _) (c := some _) rfl rfl
  case cpFrame =>
    rw [passed_eq]
    rfl

/-- Settles O21: AND, XOR and OR write the bitwise operation, whose number is the operation on the numbers. -/
theorem logicAndFlags : Obligations.LogicAndFlags := by
  intro x
  refine ⟨encodes_alu .and x, fetchStops _, encodes_alu .xor x, fetchStops _, encodes_alu .or x, fetchStops _,
    fun s => ⟨aluStops _ x s, aluStops _ x s, aluStops _ x s, fun hx => ⟨?and, ?xor, ?or⟩⟩⟩
  case and => exact aluResult_of_setResult hx (BitVec.toNat_and _ _) fun _ => rfl
  case xor => exact aluResult_of_setResult hx (BitVec.toNat_xor _ _) fun _ => rfl
  case or => exact aluResult_of_setResult hx (BitVec.toNat_or _ _) fun _ => rfl

end Sys2Proof.Machine
end

section
/-! INC and DEC of an 8-bit operand (spec/43_alu8.md R221 to R226). -/

namespace Sys2Proof.Machine

open Claim

/-! The helpers as numbers. -/

theorem toNat_inc8 (v : Byte) : (inc8 v).r.toNat = (v.toNat + 1) % 256 := BitVec.toNat_add v 1

theorem toNat_dec8 (v : Byte) : (dec8 v).r.toNat = (v.toNat + 255) % 256 := by
  have hsub : (v - 1).toNat = (255 + v.toNat) % 256 := BitVec.toNat_sub v 1
  rw [dec8, hsub, Nat.add_comm]

/-- A test of the low nibble as one of the number modulo 16. -/
theorem beq_lowNibble (v k : Byte) : (v &&& 0x0F == k) = decide (v.toNat % 16 = k.toNat) := by
  have hmod : (v &&& 0x0F).toNat = v.toNat % 16 := (BitVec.toNat_and v 0x0F).trans (Nat.and_two_pow_sub_one_eq_mod v.toNat 4)
  rw [Bool.eq_iff_iff, beq_iff_eq, decide_eq_true_iff, ← hmod]
  exact BitVec.toNat_inj.symm

theorem inc8_h (v : Byte) : (inc8 v).h = decide (v.toNat % 16 = 15) := beq_lowNibble v 0x0F

theorem dec8_h (v : Byte) : (dec8 v).h = decide (v.toNat % 16 = 0) := beq_lowNibble v 0

/-- An increment gives zero from 255 alone. -/
theorem inc8_z (v : Byte) : (inc8 v).z = decide (v.toNat = 255) := by
  have hv := v.isLt
  have hz : (inc8 v).z = decide ((inc8 v).r.toNat = 0) := beq_zero_eq_decide _
  rw [hz, toNat_inc8, decide_eq_decide]
  omega

/-- A decrement gives zero from 1 alone. -/
theorem dec8_z (v : Byte) : (dec8 v).z = decide (v.toNat = 1) := by
  have hv := v.isLt
  have hz : (dec8 v).z = decide ((dec8 v).r.toNat = 0) := beq_zero_eq_decide _
  rw [hz, toNat_dec8, decide_eq_decide]
  omega

theorem eq_opByte {v : Byte} {n : Nat} (h : v.toNat = n) : v = opByte n := by
  rw [← h, opByte, BitVec.ofNat_toNat, BitVec.setWidth_eq]

/-! The rule both families of rows run. -/

theorem exec_inc (x : Loc) (s : State) :
    exec (Form.inc x) s = performTaken (Form.inc x).key true (stepLoc inc8 x) s := by
  rcases x with r | _
  · cases r <;> rfl
  · rfl

theorem exec_dec (x : Loc) (s : State) :
    exec (Form.dec x) s = performTaken (Form.dec x).key true (stepLoc dec8 x) s := by
  rcases x with r | _
  · cases r <;> rfl
  · rfl

theorem stepLoc_ok (f : Byte → Stepped) {x : Loc} {s : State} (h : present s (.loc x) = true) :
    stepLoc f x s = .ok ((s.putLoc x (f (value s (.loc x))).r).withFlags (some (f (value s (.loc x))).z)
      (some (f (value s (.loc x))).n) (some (f (value s (.loc x))).h) none) := by
  have hread : s.readLoc x = .ok (value s (.loc x)) := State.readSrc_ok h
  simp only [stepLoc, hread, bind, Except.bind, State.writeLoc_ok h]
  rfl

theorem stepLoc_error (f : Byte → Stepped) {x : Loc} {s : State} (h : present s (.loc x) = false) :
    stepLoc f x s = .error s.hl := by
  have hread : s.readLoc x = .error s.hl := State.readSrc_error h
  rw [stepLoc, hread]
  rfl

/-- All a step of an operand that exists does: the operand's place holds the helper's result, Z, N and H are the helper's, C is
kept. -/
theorem exec_stepLoc_ok {i : Instr} {f : Byte → Stepped} {x : Loc} {s : State}
    (h : exec i s = performTaken i.key true (stepLoc f x) s) (hx : present s (.loc x) = true) :
    ∃ t, exec i s = .next t ∧ Rewritten i s t x (f (value s (.loc x))).r ∧
      FlagsAre s t (f (value s (.loc x))).z (f (value s (.loc x))).n (f (value s (.loc x))).h (s.flag .c) := by
  have hrule := stepLoc_ok f (s := s.advance i.key.length) ((present_advance s _ (.loc x)).trans hx)
  rw [value_advance] at hrule
  refine ⟨_, exec_ok h hrule, rewritten_putLoc i s x _ _ _ _ _, ?_⟩
  exact flagsAre_withFlags (u := (s.advance i.key.length).putLoc x _) (z := some _) (n := some _) (h := some _) (c := none)
    (State.putLoc_f _ _ _) rfl

theorem exec_stepLoc_error {i : Instr} {f : Byte → Stepped} {x : Loc} {s : State}
    (h : exec i s = performTaken i.key true (stepLoc f x) s) (hx : present s (.loc x) = false) :
    exec i s = endsOutOfRange s s.hl :=
  exec_error h (stepLoc_error f (s := s.advance i.key.length) ((present_advance s _ (.loc x)).trans hx))

theorem exec_inc_ok {x : Loc} {s : State} (hx : present s (.loc x) = true) :
    ∃ t, exec (Form.inc x) s = .next t ∧
      Rewritten (Form.inc x) s t x (opByte (((value s (.loc x)).toNat + 1) % 256)) ∧
      FlagsAre s t (decide ((value s (.loc x)).toNat = 255)) false (decide ((value s (.loc x)).toNat % 16 = 15))
        (s.flag .c) := by
  rw [← eq_opByte (toNat_inc8 _), ← inc8_z, ← inc8_h]
  exact exec_stepLoc_ok (exec_inc x s) hx

theorem exec_dec_ok {x : Loc} {s : State} (hx : present s (.loc x) = true) :
    ∃ t, exec (Form.dec x) s = .next t ∧
      Rewritten (Form.dec x) s t x (opByte (((value s (.loc x)).toNat + 255) % 256)) ∧
      FlagsAre s t (decide ((value s (.loc x)).toNat = 1)) true (decide ((value s (.loc x)).toNat % 16 = 0))
        (s.flag .c) := by
  rw [← eq_opByte (toNat_dec8 _), ← dec8_z, ← dec8_h]
  exact exec_stepLoc_ok (exec_dec x s) hx

theorem encodes_inc (x : Loc) : Encodes (Form.inc x) [opByte (0x04 + 8 * locCode x)] (if x = .atHl then 12 else 4)
    (if x = .atHl then 12 else 4) := by
  rcases x with r | _
  · cases r <;> exact encodes_of_defaultCost rfl rfl
  · exact encodes_of_defaultCost rfl rfl

theorem encodes_dec (x : Loc) : Encodes (Form.dec x) [opByte (0x05 + 8 * locCode x)] (if x = .atHl then 12 else 4)
    (if x = .atHl then 12 else 4) := by
  rcases x with r | _
  · cases r <;> exact encodes_of_defaultCost rfl rfl
  · exact encodes_of_defaultCost rfl rfl

/-- Settles O22: both families run `stepLoc`, of which `exec_stepLoc_ok` and `exec_stepLoc_error` say everything, with a helper
that the lemmas above give as numbers; the two helpers undo each other because they add and subtract one. -/
theorem stepsByOne : Obligations.StepsByOne := by
  refine ⟨fun x => ⟨encodes_inc x, encodes_dec x, fun s => ⟨fun hx => ⟨exec_inc_ok hx, exec_dec_ok hx⟩, fun hx => ?missing⟩⟩,
    fun v => ⟨?inc, ?dec, BitVec.add_sub_cancel v 1, BitVec.sub_add_cancel v 1⟩⟩
  case missing => exact ⟨exec_stepLoc_error (exec_inc x s) hx, exec_stepLoc_error (exec_dec x s) hx⟩
  case inc => exact ⟨toNat_inc8 v, rfl, rfl, inc8_h v⟩
  case dec => exact ⟨toNat_dec8 v, rfl, rfl, dec8_h v⟩

end Sys2Proof.Machine
end

section
/-! DAA (spec/43_alu8.md R227): its pseudocode over the integers, and that the byte arithmetic of the model is that pseudocode
modulo 256. The second correction depends on the value modulo 16 alone, which the reduction modulo 256 keeps. -/

namespace Sys2Proof.Machine

open Claim

/-- Whether the high digit is corrected, which is also the carry afterwards. -/
def daaHigh (a : Int) (n c : Bool) : Bool := c || (!n && decide (a > 0x99))

/-- Whether the low digit is corrected. -/
def daaLow (a : Int) (n h : Bool) : Bool := h || (!n && decide (a % 16 > 9))

/-- A correction by `k`, taken off after a subtraction and added after an addition. -/
def daaCorrect (n corrected : Bool) (k a : Int) : Int :=
  if n then (if corrected then a - k else a) else (if corrected then a + k else a)

/-- The same correction of a byte. -/
def daaCorrectByte (n corrected : Bool) (k v : Byte) : Byte :=
  if n then (if corrected then v - k else v) else (if corrected then v + k else v)

/-- The value DAA computes over the integers. -/
def daaValue (a : Int) (n h c : Bool) : Int :=
  daaCorrect n (daaLow (daaCorrect n (daaHigh a n c) 0x60 a) n h) 0x06 (daaCorrect n (daaHigh a n c) 0x60 a)

/-- The correction of a byte is that of its integer modulo 256. -/
theorem toNat_daaCorrectByte (n corrected : Bool) (k : Byte) {v : Byte} {a : Int} (h : (v.toNat : Int) = a % 256) :
    ((daaCorrectByte n corrected k v).toNat : Int) = daaCorrect n corrected k.toNat a % 256 := by
  have hk := k.isLt
  have hv := v.isLt
  cases n <;> cases corrected
  case false.true =>
    change ((v + k).toNat : Int) = (a + k.toNat) % 256
    rw [BitVec.toNat_add]
    omega
  case true.true =>
    change ((v - k).toNat : Int) = (a - k.toNat) % 256
    rw [BitVec.toNat_sub]
    omega
  all_goals exact h

/-- The low digit's test reads its value modulo 16, so modulo 256 is enough. -/
theorem daaLow_emod (a : Int) (n h : Bool) : daaLow (a % 256) n h = daaLow a n h := by
  rw [daaLow, daaLow, Int.emod_emod_of_dvd a (by decide : (16 : Int) ∣ 256)]

/-- The model's DAA makes the two corrections one after the other. After a subtraction (N set) the tests on the value are off. -/
theorem daa_eq (v : Byte) (n h c : Bool) :
    daa v n h c =
      (daaCorrectByte n (daaLow (daaCorrectByte n (daaHigh v.toNat n c) 0x60 v).toNat n h) 0x06
        (daaCorrectByte n (daaHigh v.toNat n c) 0x60 v), daaHigh v.toNat n c) := by
  cases n with
  | true => simp [daa, daaCorrectByte, daaHigh, daaLow]
  | false =>
    have hhigh : decide (0x99 < v.toNat) = decide ((v.toNat : Int) > 0x99) := by
      rw [decide_eq_decide]
      omega
    have hlow (w : Byte) : decide (0x09 < w.toNat % 16) = decide ((w.toNat : Int) % 16 > 9) := by
      rw [decide_eq_decide]
      omega
    simp only [daa, daaCorrectByte, daaHigh, daaLow, hhigh, hlow, Bool.not_false, Bool.true_and, Bool.false_eq_true, if_false]

/-- Its two corrections are those of the pseudocode modulo 256. -/
theorem toNat_daa (v : Byte) (n h c : Bool) : ((daa v n h c).1.toNat : Int) = daaValue v.toNat n h c % 256 := by
  have hv : (v.toNat : Int) = v.toNat % 256 := by
    have := v.isLt
    omega
  have hfirst := toNat_daaCorrectByte n (daaHigh v.toNat n c) 0x60 hv
  rw [daa_eq, hfirst, daaLow_emod]
  exact toNat_daaCorrectByte n _ 0x06 hfirst

theorem daa_carry (v : Byte) (n h c : Bool) : (daa v n h c).2 = daaHigh v.toNat n c := by
  rw [daa_eq]

/-- Zero as a byte is zero as the pseudocode's value modulo 256. -/
theorem beq_zero_daa (v : Byte) (n h c : Bool) :
    ((daa v n h c).1 == 0) = decide (daaValue v.toNat n h c % 256 = 0) := by
  rw [beq_zero_eq_decide, ← toNat_daa, decide_eq_decide]
  exact Int.natCast_eq_zero.symm

theorem exec_daa_spec (s : State) :
    ∃ t, exec .daa s = .next t ∧
      (t.a.toNat : Int) = daaValue s.a.toNat (s.flag .n) (s.flag .h) (s.flag .c) % 256 ∧
      FlagsAre s t (decide (daaValue s.a.toNat (s.flag .n) (s.flag .h) (s.flag .c) % 256 = 0)) (s.flag .n) false
        (daaHigh s.a.toNat (s.flag .n) (s.flag .c)) ∧
      { t with a := s.a, f := s.f } = passed .daa true s := by
  refine ⟨_, exec_ok (rule := decimalAdjust) rfl rfl, toNat_daa s.a _ _ _, ?flags, rfl⟩
  rw [← beq_zero_daa, ← daa_carry s.a _ (s.flag .h)]
  exact flagsAre_withFlags (u := s.setReg .a _) (z := some _) (n := none) (h := some false) (c := some _) rfl rfl

/-- Settles O23: `daaValue` and `daaHigh` are the statement's pseudocode, and `exec_daa_spec` is all DAA does. -/
theorem decimalAdjustFollowsItsPseudocode : Obligations.DecimalAdjustFollowsItsPseudocode :=
  ⟨encodes_of_defaultCost rfl rfl, exec_daa_spec⟩

end Sys2Proof.Machine
end

section
/-! CPL, SCF and CCF (spec/43_alu8.md R228 to R230): a rule that writes A and flags, or flags alone, and cannot fail. -/

namespace Sys2Proof.Machine

/-- Settles O25: the three rules write the flags their `withFlags` names and keep the others; CPL also complements A. -/
theorem complementAndCarryFlags : Obligations.ComplementAndCarryFlags := by
  refine ⟨⟨encodes_of_defaultCost rfl rfl, encodes_of_defaultCost rfl rfl, encodes_of_defaultCost rfl rfl⟩,
    fun s => ⟨?cpl, ?scf, ?ccf⟩⟩
  case cpl =>
    refine ⟨_, exec_ok (rule := complementA) rfl rfl, BitVec.toNat_not, ?_, rfl⟩
    exact flagsAre_withFlags (u := s.setReg .a (~~~s.a)) (z := none) (n := some true) (h := some true) (c := none) rfl rfl
  case scf =>
    refine ⟨_, exec_ok (rule := setCarry) rfl rfl, ?_, rfl⟩
    exact flagsAre_withFlags (u := s) (z := none) (n := some false) (h := some false) (c := some true) rfl rfl
  case ccf =>
    refine ⟨_, exec_ok (rule := complementCarry) rfl rfl, ?_, rfl⟩
    exact flagsAre_withFlags (u := s) (z := none) (n := some false) (h := some false) (c := some _) rfl rfl

end Sys2Proof.Machine
end

section
/-! 16-bit arithmetic (spec/44_alu16.md), and LD HL,SP+e8 (spec/45_loads.md R292), which adds as ADD SP,e8 does (R255): the
rule each family of rows runs, and what a completed write of a pair leaves. -/

namespace Sys2Proof.Machine

open Claim

/-! The pairs of R16sp (spec/30_encoding.md R103): what moving PC and retiring leave, and a write put back. -/

@[simp] theorem State.pairSp_advance (s : State) (n : Nat) (p : PairSp) : (s.advance n).pairSp p = s.pairSp p := by
  cases p <;> rfl

@[simp] theorem State.pairSp_retire (s : State) (k : Key) (taken : Bool) (p : PairSp) :
    (s.retire k taken).pairSp p = s.pairSp p := by
  cases p <;> rfl

theorem State.setPairSp_retire (s : State) (k : Key) (taken : Bool) (p : PairSp) (v : Word) :
    (s.retire k taken).setPairSp p v = (s.setPairSp p v).retire k taken := by
  cases p <;> rfl

/-- A write of a pair changes nothing but the pair: its old value put back gives the old state. -/
theorem State.setPairSp_setPairSp_self (s : State) (p : PairSp) (v : Word) :
    (s.setPairSp p v).setPairSp p (s.pairSp p) = s := by
  cases p
  case sp => rfl
  all_goals
    simp only [State.setPairSp, State.pairSp, State.setBc, State.setDe, State.setHl, State.bc, State.de, State.hl,
      hiByte_wordOf, loByte_wordOf]

/-- All a rule that writes one pair does: the pair holds the value, and everything else, F included, is as past the
instruction. -/
theorem exec_setPairSp_ok {i : Instr} {rule : State → Access State} {p : PairSp} {v : Word} {s : State}
    (h : exec i s = performTaken i.key true rule s)
    (hr : rule (s.advance i.key.length) = .ok ((s.advance i.key.length).setPairSp p v)) :
    ∃ t, exec i s = .next t ∧ t.pairSp p = v ∧ t.setPairSp p (s.pairSp p) = passed i true s := by
  refine ⟨_, exec_ok h hr, ?value, ?frame⟩
  case value => rw [State.pairSp_retire, State.pairSp_setPairSp]
  case frame =>
    rw [State.setPairSp_retire, ← State.pairSp_advance s i.key.length, State.setPairSp_setPairSp_self, passed_eq]

/-! INC rr and DEC rr (R250 to R252). -/

theorem exec_incPair (p : PairSp) (s : State) :
    exec (Form.incPair p) s = performTaken (Form.incPair p).key true (incPair p) s := by
  cases p <;> rfl

theorem exec_decPair (p : PairSp) (s : State) :
    exec (Form.decPair p) s = performTaken (Form.decPair p).key true (decPair p) s := by
  cases p <;> rfl

theorem encodes_incPair (p : PairSp) : Encodes (Form.incPair p) [opByte (0x03 + 16 * pairSpCode p)] 8 8 := by
  cases p <;> exact encodes_of_defaultCost rfl rfl

theorem encodes_decPair (p : PairSp) : Encodes (Form.decPair p) [opByte (0x0B + 16 * pairSpCode p)] 8 8 := by
  cases p <;> exact encodes_of_defaultCost rfl rfl

theorem toNat_inc16 (v : Word) : (inc16 v).r.toNat = (v.toNat + 1) % 65536 := BitVec.toNat_add v 1

theorem toNat_dec16 (v : Word) : (dec16 v).r.toNat = (v.toNat + 65535) % 65536 := by
  have hsub : (v - 1).toNat = (65535 + v.toNat) % 65536 := BitVec.toNat_sub v 1
  rw [dec16, hsub, Nat.add_comm]

theorem incPair_advance (p : PairSp) (s : State) (n : Nat) :
    incPair p (s.advance n) = .ok ((s.advance n).setPairSp p (inc16 (s.pairSp p)).r) := by
  rw [incPair, State.pairSp_advance]

theorem decPair_advance (p : PairSp) (s : State) (n : Nat) :
    decPair p (s.advance n) = .ok ((s.advance n).setPairSp p (dec16 (s.pairSp p)).r) := by
  rw [decPair, State.pairSp_advance]

/-- Settles O26: both families only write the pair (`exec_setPairSp_ok`), with the helper's result, whose number the two lemmas
above give; Z and N of the helpers are outputs that no row writes to F. -/
theorem pairStepsByOne : Obligations.PairStepsByOne := by
  refine ⟨fun p => ⟨encodes_incPair p, encodes_decPair p, fun s => ⟨?inc, ?dec⟩⟩,
    fun v => ⟨⟨toNat_inc16 v, rfl, rfl⟩, toNat_dec16 v, rfl, rfl⟩⟩
  case inc =>
    rw [← toNat_inc16]
    obtain ⟨t, hexec, hvalue, hframe⟩ := exec_setPairSp_ok (exec_incPair p s) (incPair_advance p s _)
    exact ⟨t, hexec, congrArg BitVec.toNat hvalue, hframe⟩
  case dec =>
    rw [← toNat_dec16]
    obtain ⟨t, hexec, hvalue, hframe⟩ := exec_setPairSp_ok (exec_decPair p s) (decPair_advance p s _)
    exact ⟨t, hexec, congrArg BitVec.toNat hvalue, hframe⟩

/-! The additions into HL and SP (R253 to R255, R292). -/

/-- All a rule that writes HL and then flags does. -/
theorem exec_setHl_withFlags_ok {i : Instr} {rule : State → Access State} {v : Word} {z n h c : Option Bool} {s : State}
    (hi : exec i s = performTaken i.key true rule s)
    (hr : rule (s.advance i.key.length) = .ok (((s.advance i.key.length).setHl v).withFlags z n h c)) :
    ∃ t, exec i s = .next t ∧ t.hl = v ∧
      FlagsAre s t (z.getD (s.flag .z)) (n.getD (s.flag .n)) (h.getD (s.flag .h)) (c.getD (s.flag .c)) ∧
      { t with h := s.h, l := s.l, f := s.f } = passed i true s := by
  refine ⟨_, exec_ok hi hr, State.hl_setHl (s.advance i.key.length) v,
    flagsAre_withFlags (u := (s.advance i.key.length).setHl v) rfl rfl, ?frame⟩
  rw [passed_eq]
  rfl

theorem exec_addHl (p : PairSp) (s : State) :
    exec (Form.addHl p) s = performTaken (Form.addHl p).key true (addHl p) s := by
  cases p <;> rfl

theorem encodes_addHl (p : PairSp) : Encodes (Form.addHl p) [opByte (0x09 + 16 * pairSpCode p)] 8 8 := by
  cases p <;> exact encodes_of_defaultCost rfl rfl

theorem addHl_advance (p : PairSp) (s : State) (n : Nat) :
    addHl p (s.advance n) = .ok (((s.advance n).setHl (add16 s.hl (s.pairSp p)).r).withFlags none (some false)
      (some (add16 s.hl (s.pairSp p)).h) (some (add16 s.hl (s.pairSp p)).cy)) := by
  rw [addHl, State.pairSp_advance]
  rfl

/-- Settles O27: the rule writes HL and flags (`exec_setHl_withFlags_ok`) from `add16`, whose carries are the statement's; Z is
not among the flags it names, so it is kept. -/
theorem wordAdditionIntoHl : Obligations.WordAdditionIntoHl := by
  refine fun p => ⟨encodes_addHl p, fun s => ?_⟩
  obtain ⟨t, hexec, hhl, hflags, hframe⟩ := exec_setHl_withFlags_ok (exec_addHl p s) (addHl_advance p s _)
  have hsum : t.hl.toNat = (s.hl.toNat + (s.pairSp p).toNat) % 65536 := by
    rw [hhl]
    exact BitVec.toNat_add s.hl (s.pairSp p)
  exact ⟨t, hexec, hsum, hflags, hframe⟩

theorem exec_add_sp_e8_spec (e : Byte) (s : State) :
    ∃ t, exec (.add_sp_e8 e) s = .next t ∧ (t.sp.toNat : Int) = (s.sp.toNat + signedValue e) % 65536 ∧
      FlagsAre s t false false (spAdd s.sp e).h (spAdd s.sp e).cy ∧
      { t with sp := s.sp, f := s.f } = passed (.add_sp_e8 e) true s := by
  refine ⟨_, exec_ok (rule := addSp e) rfl rfl, toNat_add_sext16 s.sp e, ?flags, rfl⟩
  exact flagsAre_withFlags (u := s.setSp _) (z := some _) (n := some _) (h := some _) (c := some _) rfl rfl

theorem exec_ld_hl_sp_e8_spec (e : Byte) (s : State) :
    ∃ t, exec (.ld_hl_sp_e8 e) s = .next t ∧
      ((t.h.toNat * 256 + t.l.toNat : Nat) : Int) = (s.sp.toNat + signedValue e) % 65536 ∧
      FlagsAre s t false false (spAdd s.sp e).h (spAdd s.sp e).cy ∧
      { t with h := s.h, l := s.l, f := s.f } = passed (.ld_hl_sp_e8 e) true s := by
  obtain ⟨t, hexec, hhl, hflags, hframe⟩ :=
    exec_setHl_withFlags_ok (i := .ld_hl_sp_e8 e) (s := s) (rule := loadHlSp e) rfl rfl
  have hsum : ((t.h.toNat * 256 + t.l.toNat : Nat) : Int) = (s.sp.toNat + signedValue e) % 65536 := by
    rw [← toNat_wordOf, ← State.hl, hhl]
    exact toNat_add_sext16 s.sp e
  exact ⟨t, hexec, hsum, hflags, hframe⟩

/-- Settles O18: both instructions write `spAdd` of SP and the byte: its sum is SP plus the signed displacement
(`toNat_add_sext16`), and its carries, those of the unsigned low bytes, are the statement's. -/
theorem stackPointerPlusDisplacement : Obligations.StackPointerPlusDisplacement := fun e =>
  ⟨encodes_of_defaultCost rfl rfl, fetchStops _, encodes_of_defaultCost rfl rfl, fetchStops _,
    fun s => ⟨exec_add_sp_e8_spec e s, exec_ld_hl_sp_e8_spec e s⟩⟩

end Sys2Proof.Machine
end

section
/-! Loads and stores (spec/45_loads.md): the rule each family of rows runs, and what it leaves where its bytes exist and where
one of them does not. -/

namespace Sys2Proof.Machine

open Claim

/-! A register loaded (R270 to R272). -/

@[simp] theorem State.reg_advance (s : State) (n : Nat) (q : Reg8) : (s.advance n).reg q = s.reg q := by
  cases q <;> rfl

@[simp] theorem State.reg_retire (s : State) (k : Key) (taken : Bool) (q : Reg8) : (s.retire k taken).reg q = s.reg q := by
  cases q <;> rfl

theorem State.setReg_retire (s : State) (k : Key) (taken : Bool) (q : Reg8) (v : Byte) :
    (s.retire k taken).setReg q v = (s.setReg q v).retire k taken := by
  cases q <;> rfl

/-- A write of a register changes nothing but the register: its old value put back gives the old state. -/
theorem State.setReg_setReg_self (s : State) (q : Reg8) (v : Byte) : (s.setReg q v).setReg q (s.reg q) = s := by
  cases q <;> rfl

theorem loadReg_ok (q : Reg8) {x : Src} {s : State} (h : present s x = true) :
    loadReg q x s = .ok (s.setReg q (value s x)) := by
  rw [loadReg, State.readSrc_ok h]
  rfl

theorem loadReg_error (q : Reg8) {x : Src} {s : State} (h : present s x = false) : loadReg q x s = .error s.hl := by
  rw [loadReg, State.readSrc_error h]
  rfl

/-- All a load of a register from an operand that exists does. -/
theorem exec_loadReg_ok {i : Instr} {q : Reg8} {x : Src} {s : State}
    (h : exec i s = performTaken i.key true (loadReg q x) s) (hx : present s x = true) :
    ∃ t, exec i s = .next t ∧ t.reg q = value s x ∧ t.setReg q (s.reg q) = passed i true s := by
  have hrule := loadReg_ok q (s := s.advance i.key.length) ((present_advance s _ x).trans hx)
  rw [value_advance] at hrule
  refine ⟨_, exec_ok h hrule, ?value, ?frame⟩
  case value => rw [State.reg_retire, State.reg_setReg, if_pos rfl]
  case frame => rw [State.setReg_retire, ← State.reg_advance s i.key.length, State.setReg_setReg_self, passed_eq]

theorem exec_loadReg_error {i : Instr} {q : Reg8} {x : Src} {s : State}
    (h : exec i s = performTaken i.key true (loadReg q x) s) (hx : present s x = false) :
    exec i s = endsOutOfRange s s.hl :=
  exec_error h (loadReg_error q (s := s.advance i.key.length) ((present_advance s _ x).trans hx))

theorem exec_ld (q r : Reg8) (s : State) :
    exec (Form.ld q r) s = performTaken (Form.ld q r).key true (loadReg q (.loc (.reg r))) s := by
  cases q <;> cases r <;> rfl

theorem exec_ldImm (q : Reg8) (v : Byte) (s : State) :
    exec (Form.ldImm q v) s = performTaken (Form.ldImm q v).key true (loadReg q (.imm v)) s := by
  cases q <;> rfl

theorem exec_ldFromHl (q : Reg8) (s : State) :
    exec (Form.ldFromHl q) s = performTaken (Form.ldFromHl q).key true (loadReg q (.loc .atHl)) s := by
  cases q <;> rfl

theorem encodes_ld (q r : Reg8) : Encodes (Form.ld q r) [opByte (0x40 + 8 * r8 q + r8 r)] 4 4 := by
  cases q <;> cases r <;> exact encodes_of_defaultCost rfl rfl

theorem encodes_ldImm (q : Reg8) (v : Byte) : Encodes (Form.ldImm q v) [opByte (0x06 + 8 * r8 q), v] 8 8 := by
  cases q <;> exact encodes_of_defaultCost rfl rfl

theorem encodes_ldFromHl (q : Reg8) : Encodes (Form.ldFromHl q) [opByte (0x46 + 8 * r8 q)] 8 8 := by
  cases q <;> exact encodes_of_defaultCost rfl rfl

/-- Settles O12: LD r,r' runs `loadReg` from a register, which always exists, and `exec_loadReg_ok` is all that does. -/
theorem registerCopies : Obligations.RegisterCopies :=
  fun q r => ⟨encodes_ld q r, fun s => exec_loadReg_ok (exec_ld q r s) rfl⟩

/-- Settles O13: LD r,d8 runs `loadReg` from the operand byte, and `exec_loadReg_ok` is all that does. -/
theorem immediateByteLoads : Obligations.ImmediateByteLoads :=
  fun q v => ⟨encodes_ldImm q v, fetchStops _, fun s => exec_loadReg_ok (exec_ldImm q v s) rfl⟩

/-! A byte stored at HL (R273, R274). -/

theorem storeHl_ok {x : Src} {s : State} (hx : present s x = true) (h : s.inRange s.hl = true) :
    storeHl x s = .ok (s.setByte s.hl (value s x)) := by
  rw [storeHl, State.readSrc_ok hx]
  exact State.write8_ok h _

theorem storeHl_error {x : Src} {s : State} (hx : present s x = true) (h : s.inRange s.hl = false) :
    storeHl x s = .error s.hl := by
  rw [storeHl, State.readSrc_ok hx]
  exact State.write8_error h _

/-- All a store at HL of an operand that exists does: the one byte stored where HL exists, and else the halt at HL. -/
theorem exec_storeHl_spec {i : Instr} {x : Src} {s : State} (h : exec i s = performTaken i.key true (storeHl x) s)
    (hx : present s x = true) :
    (s.inRange s.hl = true →
      ∃ t, exec i s = .next t ∧ StoresByte s t s.hl (value s x) ∧ { t with mem := s.mem } = passed i true s) ∧
    (s.inRange s.hl = false → exec i s = endsOutOfRange s s.hl) := by
  have hpresent : present (s.advance i.key.length) x = true := (present_advance s _ x).trans hx
  refine ⟨fun hin => ?stored, fun hout => exec_error h (storeHl_error hpresent hout)⟩
  have hrule := storeHl_ok hpresent hin
  rw [value_advance] at hrule
  refine ⟨_, exec_ok h hrule, fun y => State.byteAt_setByte (s.advance _) s.hl y _, ?frame⟩
  rw [passed_eq]
  rfl

theorem exec_ldToHl (q : Reg8) (s : State) :
    exec (Form.ldToHl q) s = performTaken (Form.ldToHl q).key true (storeHl (.loc (.reg q))) s := by
  cases q <;> rfl

theorem encodes_ldToHl (q : Reg8) : Encodes (Form.ldToHl q) [opByte (0x70 + r8 q)] 8 8 := by
  cases q <;> exact encodes_of_defaultCost rfl rfl

/-- Settles O14: LD r,(HL) is a load whose operand may be missing; LD (HL),r and LD (HL),d8 are stores of an operand that
exists, at HL as it was, since `storeHl` writes no register. -/
theorem loadsAndStoresAtHl : Obligations.LoadsAndStoresAtHl := by
  refine fun q v => ⟨⟨encodes_ldFromHl q, fun s => ⟨?load, ?missing⟩⟩, ⟨encodes_ldToHl q, fun s => ?store⟩,
    encodes_of_defaultCost rfl rfl, fetchStops _, fun s => ?storeImm⟩
  case load => exact exec_loadReg_ok (exec_ldFromHl q s)
  case missing => exact exec_loadReg_error (exec_ldFromHl q s)
  case store => exact exec_storeHl_spec (exec_ldToHl q s) rfl
  case storeImm => exact exec_storeHl_spec (x := .imm v) rfl rfl

/-! A moved through an addressing mode (R275 to R288): the effective address and what is left in HL, as the statements read
them, are the model's. -/

theorem State.address_advance (s : State) (n : Nat) (m : Mode) : (s.advance n).address m = modeAddress s m := by
  cases m <;> rfl

theorem State.setHl_hl (s : State) : s.setHl s.hl = s := by
  simp only [State.setHl, State.hl, hiByte_wordOf, loByte_wordOf]

/-- What a mode leaves in HL depends on HL alone. -/
theorem modeHl_of_hl {s t : State} (hh : t.h = s.h) (hl : t.l = s.l) (m : Mode) : modeHl t m = modeHl s m := by
  cases m <;> simp only [modeHl, hh, hl]

/-- The base modification of every mode is a write of HL, which for five of the seven puts back what HL held. The access made
before it leaves HL alone. -/
theorem State.modify_eq_setHl {s t : State} (hh : t.h = s.h) (hl : t.l = s.l) (m : Mode) :
    t.modify m = t.setHl (modeHl s m) := by
  rw [← modeHl_of_hl hh hl]
  cases m
  case hlInc | hlDec => rfl
  all_goals exact t.setHl_hl.symm

theorem loadA_advance_ok {m : Mode} {s : State} (n : Nat) (h : s.inRange (modeAddress s m) = true) :
    loadA m (s.advance n) = .ok (((s.advance n).setReg .a (s.byteAt (modeAddress s m))).setHl (modeHl s m)) := by
  rw [loadA, State.address_advance, State.read8_ok (s := s.advance n) h]
  exact congrArg Except.ok (State.modify_eq_setHl rfl rfl m)

theorem loadA_advance_error {m : Mode} {s : State} (n : Nat) (h : s.inRange (modeAddress s m) = false) :
    loadA m (s.advance n) = .error (modeAddress s m) := by
  rw [loadA, State.address_advance, State.read8_error (s := s.advance n) h]
  rfl

theorem storeA_advance_ok {m : Mode} {s : State} (n : Nat) (h : s.inRange (modeAddress s m) = true) :
    storeA m (s.advance n) = .ok (((s.advance n).setByte (modeAddress s m) s.a).setHl (modeHl s m)) := by
  rw [storeA, State.address_advance, State.write8_ok (s := s.advance n) h]
  exact congrArg Except.ok (State.modify_eq_setHl rfl rfl m)

theorem storeA_advance_error {m : Mode} {s : State} (n : Nat) (h : s.inRange (modeAddress s m) = false) :
    storeA m (s.advance n) = .error (modeAddress s m) := by
  rw [storeA, State.address_advance, State.write8_error (s := s.advance n) h]
  rfl

theorem exec_loadA (m : Mode) (s : State) :
    exec (Form.loadA m) s = performTaken (Form.loadA m).key true (loadA m) s := by
  cases m <;> rfl

theorem exec_storeA (m : Mode) (s : State) :
    exec (Form.storeA m) s = performTaken (Form.storeA m).key true (storeA m) s := by
  cases m <;> rfl

theorem encodes_loadA (m : Mode) : Encodes (Form.loadA m) (loadABytes m) (modeCost m) (modeCost m) := by
  cases m <;> exact encodes_of_defaultCost rfl rfl

theorem encodes_storeA (m : Mode) : Encodes (Form.storeA m) (storeABytes m) (modeCost m) (modeCost m) := by
  cases m <;> exact encodes_of_defaultCost rfl rfl

/-- Settles O15: every row runs `loadA`, which writes A and then HL (`loadA_advance_ok`), or stops at the effective address. -/
theorem accumulatorLoads : Obligations.AccumulatorLoads := by
  refine fun m => ⟨encodes_loadA m, fetchStops _, fun s => ⟨fun hin => ?load, fun hout => ?missing⟩⟩
  case load =>
    refine ⟨_, exec_ok (exec_loadA m s) (loadA_advance_ok _ hin), rfl, wordOf_hiByte_loByte _, ?frame⟩
    rw [passed_eq]
    rfl
  case missing => exact exec_error (exec_loadA m s) (loadA_advance_error _ hout)

/-- Settles O16: every row runs `storeA`, which stores A and then writes HL (`storeA_advance_ok`), or stops at the effective
address. -/
theorem accumulatorStores : Obligations.AccumulatorStores := by
  refine fun m => ⟨encodes_storeA m, fetchStops _, fun s => ⟨fun hin => ?store, fun hout => ?missing⟩⟩
  case store =>
    refine ⟨_, exec_ok (exec_storeA m s) (storeA_advance_ok _ hin),
      fun y => State.byteAt_setByte (s.advance _) _ y s.a, wordOf_hiByte_loByte _, ?frame⟩
    rw [passed_eq]
    rfl
  case missing => exact exec_error (exec_storeA m s) (storeA_advance_error _ hout)

/-! 16-bit moves (R289 to R291). -/

theorem State.write16_error_low {s : State} {x : Word} (h : s.inRange x = false) (v : Word) :
    s.write16 x v = .error x := by
  rw [State.write16, State.write8_error h]
  rfl

theorem State.write16_error_high {s : State} {x : Word} (hlo : s.inRange x = true) (hhi : s.inRange (x + 1) = false)
    (v : Word) : s.write16 x v = .error (x + 1) := by
  rw [State.write16, State.write8_ok hlo]
  exact State.write8_error (s := s.setByte x (loByte v)) hhi (hiByte v)

theorem exec_ldPair (p : PairSp) (v : Word) (s : State) :
    exec (Form.ldPair p v) s = performTaken (Form.ldPair p v).key true (loadPair p v) s := by
  cases p <;> rfl

theorem encodes_ldPair (p : PairSp) (v : Word) :
    Encodes (Form.ldPair p v) [opByte (0x01 + 16 * pairSpCode p), loByte v, hiByte v] 12 12 := by
  cases p <;> exact encodes_of_defaultCost rfl rfl

theorem exec_ld_at_a16_sp (x : Word) (s : State) :
    exec (.ld_at_a16_sp x) s = performTaken (Instr.ld_at_a16_sp x).key true (storeSp x) s := rfl

/-- LD (a16),SP where both bytes exist (R290). The two stores are read back in the opposite order, the high byte's first. -/
theorem exec_ld_at_a16_sp_ok {x : Word} {s : State} (hlo : s.inRange x = true) (hhi : s.inRange (x + 1) = true) :
    ∃ t, exec (.ld_at_a16_sp x) s = .next t ∧
      (∀ y : Word, t.byteAt y = if y = x + 1 then hiByte s.sp else if y = x then loByte s.sp else s.byteAt y) ∧
      { t with mem := s.mem } = passed (.ld_at_a16_sp x) true s := by
  refine ⟨_, exec_ok (exec_ld_at_a16_sp x s) (State.write16_ok (s := s.advance _) hlo hhi _), fun y => ?bytes, ?frame⟩
  case bytes =>
    rw [State.byteAt_retire, State.byteAt_setByte, State.byteAt_setByte, State.byteAt_advance, State.advance_sp]
  case frame =>
    rw [passed_eq]
    rfl

/-- Settles O17: LD rr,d16 only writes the pair (`exec_setPairSp_ok`), and LD SP,HL writes HL to SP; LD (a16),SP is the 16-bit
write of SP, which stops at the first of its two addresses that does not exist. -/
theorem wordMoves : Obligations.WordMoves := by
  refine ⟨fun p v => ⟨encodes_ldPair p v, fetchStops _, fun s => ?ldPair⟩, ⟨encodes_of_defaultCost rfl rfl, fun s => ?ldSpHl⟩,
    fun x => ⟨encodes_of_defaultCost rfl rfl, fetchStops _, fun s =>
      ⟨fun hlo hhi => ?both, fun hlo => ?low, fun hlo hhi => ?high⟩⟩⟩
  case ldPair => exact exec_setPairSp_ok (exec_ldPair p v s) rfl
  case ldSpHl => exact ⟨_, exec_ok (rule := loadSpHl) rfl rfl, toNat_wordOf s.h s.l, rfl⟩
  case both => exact exec_ld_at_a16_sp_ok hlo hhi
  case low => exact exec_error (exec_ld_at_a16_sp x s) (State.write16_error_low (s := s.advance _) hlo _)
  case high => exact exec_error (exec_ld_at_a16_sp x s) (State.write16_error_high (s := s.advance _) hlo hhi _)

end Sys2Proof.Machine
end

section
/-! Rotates and shifts (spec/46_rotate_shift_bit.md R310 to R322): the result of `shift` bit by bit, what a rule that rewrites
its operand leaves, and the rule each family of rows runs. -/

namespace Sys2Proof.Machine

open Claim

/-! The result of a rotate or shift, bit by bit. -/

/-- A bit moved in at the low end. -/
theorem getLsbD_shiftLeft_or_low (v : Byte) (b : Bool) {k : Nat} (hk : k < 8) :
    (v <<< 1 ||| if b then 0x01 else 0).getLsbD k = if k = 0 then b else v.getLsbD (k - 1) := by
  have hin : ((if b then 0x01 else 0 : Byte)).getLsbD k = (b && decide (k = 0)) := by
    cases b <;> simp
  rw [BitVec.getLsbD_or, BitVec.getLsbD_shiftLeft, hin]
  by_cases h : k = 0
  · simp [h]
  · simp [h, hk]

/-- A bit moved in at the high end. -/
theorem getLsbD_ushiftRight_or_high (v : Byte) (b : Bool) (k : Nat) :
    (v >>> 1 ||| if b then 0x80 else 0).getLsbD k = if k = 7 then b else v.getLsbD (k + 1) := by
  have hin : ((if b then 0x80 else 0 : Byte)).getLsbD k = (b && decide (k = 7)) := by
    cases b
    · simp
    · have htop : (0x80 : Byte) = BitVec.twoPow 8 7 := rfl
      simp [htop, BitVec.getLsbD_twoPow, eq_comm]
  rw [BitVec.getLsbD_or, BitVec.getLsbD_ushiftRight, hin, Nat.add_comm 1 k]
  by_cases h : k = 7 <;> simp [h]

/-- SRA keeps bit 7 by moving it in again (R320). -/
theorem and_bit7 (v : Byte) : v &&& 0x80 = if v.getLsbD 7 then 0x80 else 0 :=
  BitVec.and_twoPow v 7

/-- SWAP exchanges the two digits (R321). -/
theorem getLsbD_swapDigits (v : Byte) {k : Nat} (hk : k < 8) :
    (v <<< 4 ||| v >>> 4).getLsbD k = v.getLsbD ((k + 4) % 8) := by
  rw [BitVec.getLsbD_or, BitVec.getLsbD_shiftLeft, BitVec.getLsbD_ushiftRight, Nat.add_comm 4 k]
  by_cases h : k < 4
  · have hmod : (k + 4) % 8 = k + 4 := by omega
    simp [h, hmod]
  · have hmod : (k + 4) % 8 = k - 4 := by omega
    have hout : v.getLsbD (k + 4) = false := BitVec.getLsbD_of_ge v _ (by omega)
    simp [h, hk, hmod, hout]

theorem getLsbD_shift (op : ShiftOp) (v : Byte) (c : Bool) {k : Nat} (hk : k < 8) :
    (shift op v c).1.getLsbD k = shiftedBit op v c k := by
  cases op with
  | rlc => exact getLsbD_shiftLeft_or_low v (v.getLsbD 7) hk
  | rrc => exact getLsbD_ushiftRight_or_high v (v.getLsbD 0) k
  | rl => exact getLsbD_shiftLeft_or_low v c hk
  | rr => exact getLsbD_ushiftRight_or_high v c k
  | sla =>
    rw [shift, ← BitVec.or_zero (x := v <<< 1)]
    exact getLsbD_shiftLeft_or_low v false hk
  | sra =>
    rw [shift, and_bit7]
    exact getLsbD_ushiftRight_or_high v (v.getLsbD 7) k
  | swap => exact getLsbD_swapDigits v hk
  | srl =>
    rw [shift, ← BitVec.or_zero (x := v >>> 1)]
    exact getLsbD_ushiftRight_or_high v false k

theorem shift_carry (op : ShiftOp) (v : Byte) (c : Bool) : (shift op v c).2 = shiftedOut op v := by
  cases op <;> rfl

/-! RLCA, RLA, RRCA and RRA (R310 to R313). -/

theorem exec_shiftA_spec {i : Instr} {op : ShiftOp} {s : State}
    (h : exec i s = performTaken i.key true (shiftA op) s) :
    ∃ t, exec i s = .next t ∧
      (∀ k, k < 8 → t.a.getLsbD k = shiftedBit op s.a (s.flag .c) k) ∧
      FlagsAre s t false false false (shiftedOut op s.a) ∧
      { t with a := s.a, f := s.f } = passed i true s := by
  refine ⟨_, exec_ok h rfl, fun k hk => getLsbD_shift op s.a (s.flag .c) hk, ?flags, ?frame⟩
  case flags =>
    rw [← shift_carry op s.a (s.flag .c)]
    exact flagsAre_withFlags (u := s.setReg .a _) (z := some false) (n := some false) (h := some false) (c := some _) rfl rfl
  case frame =>
    rw [passed_eq]
    rfl

/-- Settles O28: the four rows run `shiftA`, whose result is `shift` of A, bit by bit that of the rule (`getLsbD_shift`). -/
theorem accumulatorRotates : Obligations.AccumulatorRotates := by
  refine ⟨⟨encodes_of_defaultCost rfl rfl, encodes_of_defaultCost rfl rfl, encodes_of_defaultCost rfl rfl,
    encodes_of_defaultCost rfl rfl⟩, fun s => ?rows⟩
  simp only [List.forall_mem_cons, List.not_mem_nil, false_imp_iff, implies_true, and_true]
  exact ⟨exec_shiftA_spec rfl, exec_shiftA_spec rfl, exec_shiftA_spec rfl, exec_shiftA_spec rfl⟩

/-! Rules of the sub-table: each reads its operand first (R314). -/

theorem State.readLoc_bind_ok {s : State} {x : Loc} (h : present s (.loc x) = true) (rest : Byte → Access State) :
    (s.readLoc x >>= rest) = rest (value s (.loc x)) := by
  have hread : s.readLoc x = .ok (value s (.loc x)) := State.readSrc_ok h
  rw [hread]
  rfl

/-- A rule that reads an operand that does not exist stops there, whatever it would do with the byte. -/
theorem exec_readLoc_error {i : Instr} {x : Loc} {rest : State → Byte → Access State} {s : State}
    (h : exec i s = performTaken i.key true (fun t => t.readLoc x >>= rest t) s) (hx : present s (.loc x) = false) :
    exec i s = endsOutOfRange s s.hl := by
  have hread : (s.advance i.key.length).readLoc x = .error s.hl := State.readSrc_error ((present_advance s _ _).trans hx)
  refine exec_error h ?_
  simp only [hread]
  rfl

/-- All a rule does that puts a byte in its operand's place and then writes flags. -/
theorem exec_putLoc_ok {i : Instr} {rule : State → Access State} {x : Loc} {v : Byte} {z n h c : Option Bool} {s : State}
    (hi : exec i s = performTaken i.key true rule s)
    (hr : rule (s.advance i.key.length) = .ok (((s.advance i.key.length).putLoc x v).withFlags z n h c)) :
    ∃ t, exec i s = .next t ∧ Rewritten i s t x v ∧ t.f = (s.withFlags z n h c).f := by
  refine ⟨_, exec_ok hi hr, rewritten_putLoc i s x v z n h c, ?_⟩
  simp only [State.retire_f, State.withFlags_f, State.putLoc_f, State.advance_f]

theorem shiftLoc_ok (op : ShiftOp) {x : Loc} {s : State} (h : present s (.loc x) = true) :
    shiftLoc op x s = .ok ((s.putLoc x (shift op (value s (.loc x)) (s.flag .c)).1).withFlags
      (some ((shift op (value s (.loc x)) (s.flag .c)).1 == 0)) (some false) (some false)
      (some (shift op (value s (.loc x)) (s.flag .c)).2)) := by
  rw [shiftLoc, State.readLoc_bind_ok h]
  simp only [State.writeLoc_ok h]
  rfl

theorem exec_shift (op : ShiftOp) (x : Loc) (s : State) :
    exec (Form.shift op x) s = performTaken (Form.shift op x).key true (shiftLoc op x) s := by
  rcases x with r | _
  · cases op <;> cases r <;> rfl
  · cases op <;> rfl

theorem encodes_shift (op : ShiftOp) (x : Loc) : Encodes (Form.shift op x) [0xCB, opByte (8 * shiftCode op + locCode x)]
    (cbRewriteCost x) (cbRewriteCost x) := by
  rcases x with r | _
  · cases op <;> cases r <;> exact encodes_of_defaultCost rfl rfl
  · cases op <;> exact encodes_of_defaultCost rfl rfl

theorem exec_shift_ok (op : ShiftOp) {x : Loc} {s : State} (hx : present s (.loc x) = true) :
    ∃ t r, exec (Form.shift op x) s = .next t ∧ Rewritten (Form.shift op x) s t x r ∧
      (∀ k, k < 8 → r.getLsbD k = shiftedBit op (value s (.loc x)) (s.flag .c) k) ∧
      FlagsAre s t (decide (r = 0)) false false (shiftedOut op (value s (.loc x))) := by
  have hrule := shiftLoc_ok op (s := s.advance (Form.shift op x).key.length) ((present_advance s _ _).trans hx)
  rw [value_advance] at hrule
  obtain ⟨t, hexec, hwritten, hf⟩ := exec_putLoc_ok (exec_shift op x s) hrule
  refine ⟨t, _, hexec, hwritten, fun k hk => getLsbD_shift op _ _ hk, ?_⟩
  rw [← shift_carry op _ (s.flag .c)]
  exact flagsAre_withFlags (u := s) (z := some _) (n := some false) (h := some false) (c := some _) rfl hf

/-- Settles O29: every row runs `shiftLoc`, which puts the result of `shift` in the operand's place (`exec_shift_ok`) or stops
at an operand that does not exist. -/
theorem shiftsRewriteTheirOperand : Obligations.ShiftsRewriteTheirOperand :=
  fun op x => ⟨encodes_shift op x, fun s => ⟨exec_shift_ok op, exec_readLoc_error (exec_shift op x s)⟩⟩

end Sys2Proof.Machine
end

section
/-! BIT, RES and SET (spec/46_rotate_shift_bit.md R323 to R325): the rule each family of rows runs, and one bit cleared or set. -/

namespace Sys2Proof.Machine

open Claim

theorem exec_bit (b : Fin 8) (x : Loc) (s : State) :
    exec (Form.bit b x) s = performTaken (Form.bit b x).key true (testLoc b x) s := by
  match b with
  | 0 | 1 | 2 | 3 | 4 | 5 | 6 | 7 =>
    rcases x with r | _
    · cases r <;> rfl
    · rfl

theorem exec_res (b : Fin 8) (x : Loc) (s : State) :
    exec (Form.res b x) s = performTaken (Form.res b x).key true (resetLoc b x) s := by
  match b with
  | 0 | 1 | 2 | 3 | 4 | 5 | 6 | 7 =>
    rcases x with r | _
    · cases r <;> rfl
    · rfl

theorem exec_set (b : Fin 8) (x : Loc) (s : State) :
    exec (Form.set b x) s = performTaken (Form.set b x).key true (setLoc b x) s := by
  match b with
  | 0 | 1 | 2 | 3 | 4 | 5 | 6 | 7 =>
    rcases x with r | _
    · cases r <;> rfl
    · rfl

theorem encodes_bit (b : Fin 8) (x : Loc) : Encodes (Form.bit b x) [0xCB, opByte (0x40 + 8 * b.val + locCode x)]
    (if x = .atHl then 12 else 8) (if x = .atHl then 12 else 8) := by
  match b with
  | 0 | 1 | 2 | 3 | 4 | 5 | 6 | 7 =>
    rcases x with r | _
    · cases r <;> exact encodes_of_defaultCost rfl rfl
    · exact encodes_of_defaultCost rfl rfl

theorem encodes_res (b : Fin 8) (x : Loc) : Encodes (Form.res b x) [0xCB, opByte (0x80 + 8 * b.val + locCode x)]
    (cbRewriteCost x) (cbRewriteCost x) := by
  match b with
  | 0 | 1 | 2 | 3 | 4 | 5 | 6 | 7 =>
    rcases x with r | _
    · cases r <;> exact encodes_of_defaultCost rfl rfl
    · exact encodes_of_defaultCost rfl rfl

theorem encodes_set (b : Fin 8) (x : Loc) : Encodes (Form.set b x) [0xCB, opByte (0xC0 + 8 * b.val + locCode x)]
    (cbRewriteCost x) (cbRewriteCost x) := by
  match b with
  | 0 | 1 | 2 | 3 | 4 | 5 | 6 | 7 =>
    rcases x with r | _
    · cases r <;> exact encodes_of_defaultCost rfl rfl
    · exact encodes_of_defaultCost rfl rfl

/-! BIT (R323). -/

theorem testLoc_ok (b : Fin 8) {x : Loc} {s : State} (h : present s (.loc x) = true) :
    testLoc b x s = .ok (s.withFlags (some (!(value s (.loc x)).getLsbD b.val)) (some false) (some true) none) :=
  State.readLoc_bind_ok h _

theorem exec_bit_ok (b : Fin 8) {x : Loc} {s : State} (hx : present s (.loc x) = true) :
    ∃ t, exec (Form.bit b x) s = .next t ∧
      FlagsAre s t (!(value s (.loc x)).getLsbD b.val) false true (s.flag .c) ∧
      { t with f := s.f } = passed (Form.bit b x) true s := by
  have hrule := testLoc_ok b (s := s.advance (Form.bit b x).key.length) ((present_advance s _ _).trans hx)
  rw [value_advance] at hrule
  refine ⟨_, exec_ok (exec_bit b x s) hrule, ?flags, ?frame⟩
  case flags => exact flagsAre_withFlags (u := s) (z := some _) (n := some false) (h := some true) (c := none) rfl rfl
  case frame =>
    rw [passed_eq]
    rfl

/-- Settles O30: every row runs `testLoc`, which reads its operand and writes flags only (`testLoc_ok`). -/
theorem bitTestsWriteFlagsOnly : Obligations.BitTestsWriteFlagsOnly :=
  fun b x => ⟨encodes_bit b x, fun s => ⟨exec_bit_ok b, exec_readLoc_error (exec_bit b x s)⟩⟩

/-! RES and SET (R324, R325). -/

theorem getLsbD_clearBit (v : Byte) (b : Fin 8) {k : Nat} (hk : k < 8) :
    (clearBit v b).getLsbD k = if k = b.val then false else v.getLsbD k := by
  rw [clearBit, BitVec.getLsbD_and, BitVec.getLsbD_not, BitVec.getLsbD_twoPow]
  by_cases h : k = b.val
  · simp [h]
  · simp [h, hk, Ne.symm h]

theorem getLsbD_assertBit (v : Byte) (b : Fin 8) (k : Nat) :
    (assertBit v b).getLsbD k = if k = b.val then true else v.getLsbD k := by
  rw [assertBit, BitVec.getLsbD_or, BitVec.getLsbD_twoPow]
  by_cases h : k = b.val
  · simp [h]
  · simp [h, Ne.symm h]

/-- All a rule does that rewrites an operand that exists by a function of its byte and writes no flag. -/
theorem exec_rewrite_ok {i : Instr} {f : Byte → Byte} {x : Loc} {s : State}
    (h : exec i s = performTaken i.key true (fun t => t.readLoc x >>= fun v => t.writeLoc x (f v)) s)
    (hx : present s (.loc x) = true) :
    ∃ t, exec i s = .next t ∧ Rewritten i s t x (f (value s (.loc x))) ∧ t.f = s.f := by
  have hpresent : present (s.advance i.key.length) (.loc x) = true := (present_advance s _ _).trans hx
  refine exec_putLoc_ok (z := none) (n := none) (h := none) (c := none) h ?_
  rw [State.readLoc_bind_ok hpresent, State.writeLoc_ok hpresent, value_advance]
  rfl

theorem exec_res_ok (b : Fin 8) {x : Loc} {s : State} (hx : present s (.loc x) = true) :
    ∃ t r, exec (Form.res b x) s = .next t ∧ Rewritten (Form.res b x) s t x r ∧ t.f = s.f ∧
      ∀ k, k < 8 → r.getLsbD k = if k = b.val then false else (value s (.loc x)).getLsbD k := by
  obtain ⟨t, hexec, hwritten, hf⟩ := exec_rewrite_ok (f := (clearBit · b)) (exec_res b x s) hx
  exact ⟨t, _, hexec, hwritten, hf, fun k hk => getLsbD_clearBit _ b hk⟩

theorem exec_set_ok (b : Fin 8) {x : Loc} {s : State} (hx : present s (.loc x) = true) :
    ∃ t r, exec (Form.set b x) s = .next t ∧ Rewritten (Form.set b x) s t x r ∧ t.f = s.f ∧
      ∀ k, k < 8 → r.getLsbD k = if k = b.val then true else (value s (.loc x)).getLsbD k := by
  obtain ⟨t, hexec, hwritten, hf⟩ := exec_rewrite_ok (f := (assertBit · b)) (exec_set b x s) hx
  exact ⟨t, _, hexec, hwritten, hf, fun k _ => getLsbD_assertBit _ b k⟩

/-- Settles O31: both families rewrite their operand by a function of its byte (`exec_rewrite_ok`), `clearBit` and `assertBit`,
each of which gives one bit and keeps the others. -/
theorem bitsAreClearedAndSet : Obligations.BitsAreClearedAndSet :=
  fun b x => ⟨encodes_res b x, encodes_set b x, fun s => ⟨fun hx => ⟨exec_res_ok b hx, exec_set_ok b hx⟩,
    fun hx => ⟨exec_readLoc_error (exec_res b x s) hx, exec_readLoc_error (exec_set b x s) hx⟩⟩⟩

end Sys2Proof.Machine
end

section
/-! NOP, HALT, STOP, DI and EI (spec/47_control.md): what a completed rule leaves that writes nothing, the run state alone or
IME alone. -/

namespace Sys2Proof.Machine

open Claim

theorem exec_nop_ok {i : Instr} {s : State} (h : exec i s = performTaken i.key true nop s) :
    exec i s = .next (passed i true s) := by
  rw [exec_ok h rfl, passed_eq]

theorem exec_setRun_ok {i : Instr} {rule : State → Access State} {r : RunState} {s : State}
    (h : exec i s = performTaken i.key true rule s)
    (hr : rule (s.advance i.key.length) = .ok ((s.advance i.key.length).setRun r)) :
    exec i s = .next { passed i true s with run := r } := by
  rw [exec_ok h hr, passed_eq]
  rfl

theorem exec_setIme_ok {i : Instr} {b : Bool} {s : State} (h : exec i s = performTaken i.key true (setIme b) s) :
    exec i s = .next { passed i true s with ime := b } := by
  rw [exec_ok h rfl, passed_eq]
  rfl

/-- Settles O40: each row runs a rule that cannot fail, `nop`, `halt`, `stop` or `setIme`, so the lemma of what the rule writes
says all the row does; the byte of STOP is fetched (`fetchStops`) and the rule ignores it. -/
theorem controlInstructions : Obligations.ControlInstructions := by
  refine ⟨⟨?nop, ?halt, ?di, ?ei, fun v => ⟨?stop, fetchStops (.stop v)⟩⟩, fun s => ?effects⟩
  case effects =>
    have hhalt := exec_setRun_ok (i := .halt) (rule := halt) (s := s) rfl rfl
    have hstop (v : Byte) := exec_setRun_ok (i := .stop v) (rule := stop v) (s := s) rfl rfl
    exact ⟨exec_nop_ok rfl, hhalt, hstop, exec_setIme_ok rfl, exec_setIme_ok rfl⟩
  all_goals exact encodes_of_defaultCost rfl rfl

end Sys2Proof.Machine
end

section
/-! Decoding and encoding undo each other (spec/30_encoding.md R100, R107, R111). -/

namespace Sys2Proof

/-- Decoding what the encoder writes. The row CB_prefix is left out: its bytes are those of the CB rows. -/
theorem decode_encode {i : Instr} (hwf : i.wellFormed = true) (rest : List Byte) :
    decode (encode i ++ rest) = .ok (i, rest) := by
  cases i
  case cb_prefix => exact absurd hwf nofun
  case ld_bc_d16 v | ld_de_d16 v | ld_hl_d16 v | ld_sp_d16 v | ld_at_a16_sp v | jp_a16 v | jp_nz_a16 v | jp_z_a16 v
    | jp_nc_a16 v | jp_c_a16 v | call_a16 v | call_nz_a16 v | call_z_a16 v | call_nc_a16 v | call_c_a16 v | ld_at_a16_a v
    | ld_a_at_a16 v => exact decode_word rfl (by decide) v rest
  all_goals exact rfl

/-- Settles O1: on every row but the 17 with a 16-bit operand the decoder computes the instruction back from the opcode and
the operand byte the encoder wrote; those 17 join the two bytes of their operand again (`decode_word`). -/
theorem decodeInvertsEncode : Obligations.DecodeInvertsEncode :=
  fun _ rest hwf => decode_encode hwf rest

/-- Bytes that decode are the encoding of what they decode to: by the table each of them was read through. -/
theorem eq_encode_of_decode {bytes rest : List Byte} {i : Instr} (h : decode bytes = .ok (i, rest)) :
    bytes = encode i ++ rest ∧ i.wellFormed = true := by
  cases bytes with
  | nil => exact absurd h nofun
  | cons op tail =>
    rcases decode_cons_cases h with ⟨sub, rfl, rfl, rfl⟩ | ⟨hc, ⟨he, rfl⟩ | ⟨f, v, he, rfl, rfl⟩ | ⟨f, lo, hi, he, rfl, rfl⟩⟩
    · obtain ⟨hbytes, hwf⟩ := cbEntry_ok sub
      exact ⟨by rw [hbytes]; rfl, hwf⟩
    all_goals
      have hplace := primaryEntry_ok op
      rw [he] at hplace
    · obtain ⟨hbytes, hwf⟩ := hplace
      exact ⟨by rw [hbytes]; rfl, hwf⟩
    · obtain ⟨hbytes, hwf⟩ := hplace v hc
      exact ⟨by rw [hbytes]; rfl, hwf⟩
    · obtain ⟨hbytes, hwf⟩ := hplace (wordOf hi lo)
      rw [loByte_wordOf, hiByte_wordOf] at hbytes
      exact ⟨by rw [hbytes]; rfl, hwf⟩

/-- Settles O2: `eq_encode_of_decode`; with O1 no two byte sequences mean one instruction. -/
theorem decodedBytesAreTheEncoding : Obligations.DecodedBytesAreTheEncoding :=
  fun _ _ _ h => eq_encode_of_decode h

/-- Settles O3: each word is a short closed list of bytes, which the decoder reads through one entry of its tables. -/
theorem wordsFromTheSpecDecode : Obligations.WordsFromTheSpecDecode :=
  ⟨rfl, rfl, rfl, rfl, rfl, rfl, rfl, rfl, rfl, rfl⟩

end Sys2Proof
end

section
/-! The part of the state that no rule reads, the control state: IME, the run state, the accumulator, the port and the costs
(spec/10_state.md section 5, spec/70_reset_and_hazards.md R412). A rule commutes with any change of it, so what an instruction
does to it and what depends on it are read off one function of the rule. -/

namespace Sys2Proof.Machine

/-- The values of the control state. -/
structure Control where
  ime : Bool
  run : RunState
  cycles : Nat
  port : List PortRequest
  costs : List CostEntry

def State.control (s : State) : Control := ⟨s.ime, s.run, s.cycles, s.port, s.cfg.costs⟩

def State.withControl (s : State) (k : Control) : State :=
  { s with ime := k.ime, run := k.run, cycles := k.cycles, port := k.port, cfg := { s.cfg with costs := k.costs } }

theorem State.withControl_control (s : State) : s.withControl s.control = s := rfl

/-! What reads memory and the stack does not read the control state. -/

theorem State.write8_withControl (s : State) (k : Control) (x : Word) (v : Byte) :
    (s.withControl k).write8 x v = (·.withControl k) <$> s.write8 x v := by
  rcases s.write8_cases x v with ⟨hin, e⟩ | ⟨hout, e⟩ <;> rw [e]
  · exact State.write8_ok (s := s.withControl k) hin v
  · exact State.write8_error (s := s.withControl k) hout v

theorem State.writeLoc_withControl (s : State) (k : Control) (x : Loc) (v : Byte) :
    (s.withControl k).writeLoc x v = (·.withControl k) <$> s.writeLoc x v := by
  cases x with
  | reg r => cases r <;> rfl
  | atHl => exact s.write8_withControl k s.hl v

theorem State.write16_withControl (s : State) (k : Control) (x v : Word) :
    (s.withControl k).write16 x v = (·.withControl k) <$> s.write16 x v := by
  rcases s.write16_cases x v with ⟨hlo, hhi, e⟩ | ⟨hlo, e⟩ | ⟨hlo, hhi, e⟩ <;> rw [e]
  · exact State.write16_ok (s := s.withControl k) hlo hhi v
  · exact State.write16_error_low (s := s.withControl k) hlo v
  · exact State.write16_error_high (s := s.withControl k) hlo hhi v

theorem State.push16_withControl (s : State) (k : Control) (v : Word) :
    (s.withControl k).push16 v = (·.withControl k) <$> s.push16 v := by
  rcases s.push16_cases v with ⟨hhi, hlo, e⟩ | ⟨hhi, e⟩ | ⟨hhi, hlo, e⟩ <;> rw [e]
  · exact State.push16_ok (s := s.withControl k) hhi hlo v
  · exact State.push16_error_high (s := s.withControl k) hhi v
  · exact State.push16_error_low (s := s.withControl k) hhi hlo v

theorem State.pop16_withControl (s : State) (k : Control) :
    (s.withControl k).pop16 = (fun x => (x.1, x.2.withControl k)) <$> s.pop16 := by
  rcases s.pop16_cases with ⟨hlo, hhi, e⟩ | ⟨hlo, e⟩ | ⟨hlo, hhi, e⟩ <;> rw [e]
  · exact State.pop16_ok (s := s.withControl k) hlo hhi
  · exact State.pop16_error_low (s := s.withControl k) hlo
  · exact State.pop16_error_high (s := s.withControl k) hlo hhi

/-- What a rule leaves in the control state. -/
def Rule.control : Rule → Control → Control
  | .setIme b, k => { k with ime := b }
  | .retEnable, k => { k with ime := true }
  | .halt, k => { k with run := .sleeping .halt }
  | .stop _, k => { k with run := .sleeping .stop }
  | _, k => k

/-- Two computations in step: the first parts answer related values, and from related values the rests answer related states. -/
theorem access_bind_map {α β γ δ : Type} {a : Access α} {b : Access β} {f : α → Access γ} {g : β → Access δ} {ψ : α → β}
    {φ : γ → δ} (hfirst : b = ψ <$> a) (hrest : ∀ x, g (ψ x) = φ <$> f x) : (b >>= g) = φ <$> (a >>= f) := by
  rw [hfirst]
  cases a with
  | ok x => exact hrest x
  | error x => rfl

theorem State.readLoc_withControl (s : State) (k : Control) (x : Loc) : (s.withControl k).readLoc x = id <$> s.readLoc x := by
  rw [id_map]
  cases x with
  | reg r => cases r <;> rfl
  | atHl => rfl

theorem State.readSrc_withControl (s : State) (k : Control) (x : Src) : (s.withControl k).readSrc x = id <$> s.readSrc x := by
  cases x with
  | loc x => exact s.readLoc_withControl k x
  | imm v => rfl

theorem aluValue_withControl (op : AluOp) (v : Byte) (s : State) (k : Control) :
    aluValue op v (s.withControl k) = (aluValue op v s).withControl k := by
  cases op <;> rfl

theorem stepLoc_withControl (f : Byte → Stepped) (x : Loc) (s : State) (k : Control) :
    stepLoc f x (s.withControl k) = (·.withControl k) <$> stepLoc f x s :=
  access_bind_map (s.readLoc_withControl k x) fun _ => access_bind_map (s.writeLoc_withControl k x _) fun _ => rfl

theorem shiftLoc_withControl (op : ShiftOp) (x : Loc) (s : State) (k : Control) :
    shiftLoc op x (s.withControl k) = (·.withControl k) <$> shiftLoc op x s :=
  access_bind_map (s.readLoc_withControl k x) fun _ => access_bind_map (s.writeLoc_withControl k x _) fun _ => rfl

theorem testLoc_withControl (b : Fin 8) (x : Loc) (s : State) (k : Control) :
    testLoc b x (s.withControl k) = (·.withControl k) <$> testLoc b x s :=
  access_bind_map (s.readLoc_withControl k x) fun _ => rfl

theorem resetLoc_withControl (b : Fin 8) (x : Loc) (s : State) (k : Control) :
    resetLoc b x (s.withControl k) = (·.withControl k) <$> resetLoc b x s :=
  access_bind_map (s.readLoc_withControl k x) fun _ => s.writeLoc_withControl k x _

theorem setLoc_withControl (b : Fin 8) (x : Loc) (s : State) (k : Control) :
    setLoc b x (s.withControl k) = (·.withControl k) <$> setLoc b x s :=
  access_bind_map (s.readLoc_withControl k x) fun _ => s.writeLoc_withControl k x _

/-- A rule commutes with a change of the control state: its result depends on nothing there, and what it leaves there depends
on nothing else. -/
theorem Rule.run_withControl (r : Rule) (s : State) (k : Control) :
    r.run (s.withControl k) = (·.withControl (r.control k)) <$> r.run s := by
  cases r with
  | loadReg r x => exact access_bind_map (s.readSrc_withControl k x) fun _ => by cases r <;> rfl
  | storeHl x => exact access_bind_map (s.readSrc_withControl k x) fun _ => s.write8_withControl k _ _
  | loadA m => exact access_bind_map (ψ := id) (by cases m <;> exact (id_map _).symm) fun _ => by cases m <;> rfl
  | storeA m =>
    exact access_bind_map (by cases m <;> exact s.write8_withControl k _ _) fun _ => by cases m <;> rfl
  | loadPair p v => cases p <;> rfl
  | storeSp a => exact s.write16_withControl k a s.sp
  | alu op x => exact access_bind_map (s.readSrc_withControl k x) fun v => congrArg _ (aluValue_withControl op v s k)
  | incLoc x => exact stepLoc_withControl inc8 x s k
  | decLoc x => exact stepLoc_withControl dec8 x s k
  | incPair p | decPair p | addHl p => cases p <;> rfl
  | shiftLoc op x => exact shiftLoc_withControl op x s k
  | testLoc b x => exact testLoc_withControl b x s k
  | resetLoc b x => exact resetLoc_withControl b x s k
  | setLoc b x => exact setLoc_withControl b x s k
  | subTable sub =>
    change Sys2Proof.Machine.subTable sub _ = (·.withControl k) <$> Sys2Proof.Machine.subTable sub s
    rcases subTable_cases sub with ⟨_, _, e⟩ | ⟨_, _, e⟩ | ⟨_, _, e⟩ | ⟨_, _, e⟩ <;> rw [e]
    · exact shiftLoc_withControl _ _ s k
    · exact testLoc_withControl _ _ s k
    · exact resetLoc_withControl _ _ s k
    · exact setLoc_withControl _ _ s k
  | pushPair p => cases p <;> exact s.push16_withControl k _
  | popPair p => exact access_bind_map (s.pop16_withControl k) fun _ => by cases p <;> rfl
  | call t => exact access_bind_map (s.push16_withControl k s.pc) fun _ => rfl
  | ret => exact access_bind_map (s.pop16_withControl k) fun _ => rfl
  | retEnable => exact access_bind_map (s.pop16_withControl k) fun _ => rfl
  | loadSpHl | loadHlSp _ | decimalAdjust | complementA | setCarry | complementCarry | addSp _ | shiftA _ | jumpRelative _
    | jump _ | jumpHl | nop | halt | stop _ | setIme _ => rfl

/-- So the control state a rule leaves is `Rule.control` of the one before. -/
theorem Rule.control_of_ok {r : Rule} {s t : State} (h : r.run s = .ok t) : t.control = r.control s.control := by
  have hsame := r.run_withControl s s.control
  rw [s.withControl_control, h] at hsame
  exact congrArg State.control (Except.ok.inj hsame)

end Sys2Proof.Machine
end

section
/-! What an instruction does to the control state, and that nothing else of its result depends on it. -/

namespace Sys2Proof.Machine

/-- What an instruction whose rule runs leaves in the control state, before its cost. -/
def Shape.control : Shape → Control → Control
  | .always r, k | .onCond _ r, k => r.control k
  | .illegal _, k => k

/-- Only five rows write the control state. -/
theorem shape_control (i : Instr) :
    (∀ k, (shape i).2.control k = k) ∨ i = .di ∨ i = .ei ∨ i = .reti ∨ i = .halt ∨ ∃ v, i = .stop v := by
  cases i
  case di | ei | reti | halt | stop => simp
  all_goals exact .inl fun _ => rfl

/-- IME and the run state of a state `exec` answered: those of a fatal halt, those the instruction's rule leaves, or, where a
condition does not hold, those before. -/
theorem exec_ime_run {i : Instr} {s t : State} (h : exec i s = .next t) :
    (∃ r, t = s.halt r) ∨ (t.ime = ((shape i).2.control s.control).ime ∧ t.run = ((shape i).2.control s.control).run) ∨
      (t.ime = s.ime ∧ t.run = s.run) := by
  rcases exec_inversion h with ⟨r, u, hshape, hr, rfl⟩ | ⟨cc, r, _, _, rfl⟩ | ⟨x, rfl⟩
  · have hu : u.control = (shape i).2.control s.control := by
      have hrule : u.control = r.control s.control := r.control_of_ok (s := s.advance _) hr
      rcases hshape with e | ⟨_, e, _⟩ <;> rw [e] <;> exact hrule
    exact .inr (.inl ⟨congrArg Control.ime hu, congrArg Control.run hu⟩)
  · exact .inr (.inr ⟨rfl, rfl⟩)
  · exact .inl ⟨x, rfl⟩

/-- The instructions that write IME, and what each writes. -/
theorem exec_ime_cases {i : Instr} {s t : State} (h : exec i s = .next t) :
    t.ime = s.ime ∨ i = .di ∧ t.ime = false ∨ i = .ei ∧ t.ime = true ∨ i = .reti ∧ t.ime = true := by
  rcases exec_ime_run h with ⟨r, rfl⟩ | ⟨hime, _⟩ | ⟨hime, _⟩
  · exact .inl rfl
  · rcases shape_control i with hk | rfl | rfl | rfl | rfl | ⟨v, rfl⟩
    · exact .inl (hime.trans (congrArg Control.ime (hk _)))
    · exact .inr (.inl ⟨rfl, hime⟩)
    · exact .inr (.inr (.inl ⟨rfl, hime⟩))
    · exact .inr (.inr (.inr ⟨rfl, hime⟩))
    · exact .inl hime
    · exact .inl hime
  · exact .inl hime

/-- The instructions that write the run state short of a fatal halt, and what each writes. -/
theorem exec_run_cases {i : Instr} {s t : State} (h : exec i s = .next t) :
    t.run = s.run ∨ (∃ r, t.run = .halted r) ∨ i = .halt ∧ t.run = .sleeping .halt ∨
      ∃ v, i = .stop v ∧ t.run = .sleeping .stop := by
  rcases exec_ime_run h with ⟨r, rfl⟩ | ⟨_, hrun⟩ | ⟨_, hrun⟩
  · exact .inr (.inl ⟨r, rfl⟩)
  · rcases shape_control i with hk | rfl | rfl | rfl | rfl | ⟨v, rfl⟩
    · exact .inl (hrun.trans (congrArg Control.run (hk _)))
    · exact .inl hrun
    · exact .inl hrun
    · exact .inl hrun
    · exact .inr (.inr (.inl ⟨rfl, hrun⟩))
    · exact .inr (.inr (.inr ⟨v, rfl, hrun⟩))
  · exact .inl hrun

/-- The fields every instruction keeps. -/
theorem exec_cfg_port_hookCalls {i : Instr} {s t : State} (h : exec i s = .next t) :
    t.cfg = s.cfg ∧ t.port = s.port ∧ t.hookCalls = s.hookCalls := by
  rcases exec_cases i s with ⟨u, taken, hk, e⟩ | ⟨x, _, e⟩ | ⟨op, _, e⟩ <;> rw [e] at h <;> cases h
  · exact ⟨hk.cfg, hk.port, hk.hookCalls⟩
  all_goals exact ⟨rfl, rfl, rfl⟩

/-- Settles O44: what every rule keeps (`exec_cfg_port_hookCalls`), and the two lists of the writers of IME and of the run
state. -/
theorem controlStateIsKept : Obligations.ControlStateIsKept := by
  intro i s t h
  obtain ⟨hcfg, hport, hhook⟩ := exec_cfg_port_hookCalls h
  refine ⟨hcfg, hport, hhook, fun hdi hei hreti => ?_, exec_run_cases h⟩
  rcases exec_ime_cases h with hime | ⟨rfl, _⟩ | ⟨rfl, _⟩ | ⟨rfl, _⟩
  · exact hime
  · exact absurd rfl hdi
  · exact absurd rfl hei
  · exact absurd rfl hreti

/-! With another control state. -/

/-- A change of the control state that mixes nothing but the costs into the accumulator. -/
structure Control.Separate (g : Control → Control) : Prop where
  ime : ∀ {c d : Control}, c.ime = d.ime → (g c).ime = (g d).ime
  run : ∀ {c d : Control}, c.run = d.run → (g c).run = (g d).run
  port : ∀ {c d : Control}, c.port = d.port → (g c).port = (g d).port
  costs : ∀ {c d : Control}, c.costs = d.costs → (g c).costs = (g d).costs
  cycles : ∀ {c d : Control}, c.cycles = d.cycles → c.costs = d.costs → (g c).cycles = (g d).cycles

theorem Control.separate_id : Control.Separate id := ⟨id, id, id, id, fun h _ => h⟩

theorem Control.separate_halt (r : FaultRecord) : Control.Separate fun c => { c with run := .halted r } :=
  ⟨id, fun _ => rfl, id, id, fun h _ => h⟩

theorem Rule.control_separate (r : Rule) : Control.Separate r.control := by
  cases r
  case setIme | retEnable => exact ⟨fun _ => rfl, id, id, id, fun h _ => h⟩
  case halt | stop => exact ⟨id, fun _ => rfl, id, id, fun h _ => h⟩
  all_goals exact Control.separate_id

/-- The cost of a key is added to the accumulator. -/
def Control.retire (p : Params) (key : Key) (taken : Bool) (c : Control) : Control :=
  { c with cycles := c.cycles + { p with costs := c.costs }.cost key taken }

theorem Control.Separate.retire {g : Control → Control} (h : Control.Separate g) (p : Params) (key : Key) (taken : Bool) :
    Control.Separate fun c => (g c).retire p key taken := by
  refine ⟨h.ime, h.run, h.port, h.costs, fun hcycles hcosts => ?_⟩
  simp only [Control.retire, h.cycles hcycles hcosts, h.costs hcosts]

theorem performTaken_withControl {key : Key} {taken : Bool} {r : Rule} {s t : State}
    (h : performTaken key taken r.run s = .next t) :
    ∃ g, Control.Separate g ∧ ∀ c, performTaken key taken r.run (s.withControl c) = .next (t.withControl (g c)) := by
  have hrule (c : Control) : r.run ((s.withControl c).advance key.length) =
      (·.withControl (r.control c)) <$> r.run (s.advance key.length) := r.run_withControl (s.advance key.length) c
  unfold performTaken at h ⊢
  cases e : r.run (s.advance key.length) with
  | ok u =>
    rw [e] at h
    cases h
    refine ⟨_, r.control_separate.retire u.cfg key taken, fun c => ?_⟩
    rw [hrule, e]
    rfl
  | error x =>
    rw [e] at h
    cases h
    refine ⟨_, Control.separate_halt (.outOfRange x), fun c => ?_⟩
    rw [hrule, e]
    rfl

/-- With another control state an instruction answers the same state but for the control state. -/
theorem exec_withControl {i : Instr} {s t : State} (h : exec i s = .next t) :
    ∃ g, Control.Separate g ∧ ∀ c, exec i (s.withControl c) = .next (t.withControl (g c)) := by
  simp only [exec_eq_shape] at h ⊢
  cases hs : (shape i).2 with
  | always r =>
    rw [hs] at h
    exact performTaken_withControl h
  | onCond cc r =>
    rw [hs] at h
    have hcond (c : Control) : (s.withControl c).cond cc = s.cond cc := State.cond_of_f rfl cc
    cases hc : s.cond cc with
    | true =>
      simp only [Shape.run, hcond, hc, performIf, if_true] at h ⊢
      exact performTaken_withControl h
    | false =>
      simp only [Shape.run, hcond, hc, performIf, Bool.false_eq_true, if_false] at h ⊢
      cases h
      exact ⟨_, Control.separate_id.retire s.cfg _ false, fun _ => rfl⟩
  | illegal op =>
    rw [hs] at h
    cases h
    exact ⟨_, Control.separate_halt (.unimplementedOpcode op s.pc false), fun _ => rfl⟩

/-- The control state `exec` answered is that function of the one before. -/
theorem control_of_exec_withControl {i : Instr} {s t : State} {g : Control → Control} (h : exec i s = .next t)
    (hg : ∀ c, exec i (s.withControl c) = .next (t.withControl (g c))) : t.control = g s.control := by
  have hsame := hg s.control
  rw [s.withControl_control, h] at hsame
  exact congrArg State.control (Host.Outcome.next.inj hsame)

/-- Other costs and another accumulator. -/
def Control.withCosts (c : Control) (costs : List CostEntry) (n : Nat) : Control := { c with cycles := n, costs := costs }

/-- A control state that differs in the costs and the accumulator alone. -/
theorem State.withControl_eq_of_costs {s : State} {c : Control} (hime : c.ime = s.ime) (hrun : c.run = s.run)
    (hport : c.port = s.port) : { s.withControl c with cfg := s.cfg, cycles := s.cycles } = s := by
  rw [State.withControl, hime, hrun, hport]

/-- Settles O57: the costs and the accumulator are control state, so the answers agree outside it (`exec_withControl`), and in
it IME, the run state and the port depend on neither (`Control.Separate`). -/
theorem costsDecideOnlyCycles : Obligations.CostsDecideOnlyCycles := by
  intro i s t costs n h
  obtain ⟨g, hsep, hg⟩ := exec_withControl h
  have ht := control_of_exec_withControl h hg
  have hagree : (g (s.control.withCosts costs n)).ime = t.control.ime ∧
      (g (s.control.withCosts costs n)).run = t.control.run ∧ (g (s.control.withCosts costs n)).port = t.control.port := by
    rw [ht]
    exact ⟨hsep.ime rfl, hsep.run rfl, hsep.port rfl⟩
  obtain ⟨hime, hrun, hport⟩ := hagree
  exact ⟨_, hg (s.control.withCosts costs n), State.withControl_eq_of_costs hime hrun hport⟩

end Sys2Proof.Machine
end

section
/-! What a fetch tells of the bytes at PC (spec/40_engine.md R132 to R134, R140, R142), and that a fetch of bytes that decode
gives the instruction they decode to. -/

namespace Sys2Proof.Machine

open Claim

theorem State.fetch16_ok {s : State} (hlo : s.inRange s.pc = true) (hhi : s.inRange (s.pc + 1) = true) :
    s.fetch16 = .ok (wordOf (s.byteAt (s.pc + 1)) (s.byteAt s.pc), s.setPc (s.pc + 2)) := by
  have hsnd := State.fetch8_ok (s := s.setPc (s.pc + 1)) hhi
  simp only [State.fetch16, State.fetch8_ok hlo, hsnd, bind, Except.bind, pure, Except.pure]
  simp only [State.setPc, State.sp_add_two]
  rfl

/-- A sub-opcode that is fetched and has an entry. -/
theorem fetchSub_ok {start : Word} {s : State} (hin : s.inRange s.pc = true)
    (hk : s.cfg.implements (.cb (s.byteAt s.pc)) = true) : fetchSub start s = .instr (cbEntry (s.byteAt s.pc)) := by
  simp only [fetchSub, State.fetch8_ok hin, hk, if_true]

theorem fetchSub_of_unimplemented {start : Word} {s : State} (hin : s.inRange s.pc = true)
    (hk : s.cfg.implements (.cb (s.byteAt s.pc)) = false) :
    fetchSub start s = .fatal (.unimplementedOpcode (s.byteAt s.pc) start true) := by
  simp [fetchSub, State.fetch8_ok hin, hk]

theorem fetchSub_of_missing {start : Word} {s : State} (hout : s.inRange s.pc = false) :
    fetchSub start s = .fatal (.outOfRange s.pc) := by
  simp only [fetchSub, State.fetch8_error hout]

/-- All a fetch of a sub-opcode can give (R133). -/
theorem fetchSub_cases (start : Word) (s : State) :
    (s.cfg.implements (.cb (s.byteAt s.pc)) = true ∧ fetchSub start s = .instr (cbEntry (s.byteAt s.pc)))
    ∨ ∃ r, fetchSub start s = .fatal r := by
  cases hin : s.inRange s.pc with
  | false => exact .inr ⟨_, fetchSub_of_missing hin⟩
  | true =>
    cases hk : s.cfg.implements (.cb (s.byteAt s.pc)) with
    | true => exact .inl ⟨rfl, fetchSub_ok hin hk⟩
    | false => exact .inr ⟨_, fetchSub_of_unimplemented hin hk⟩

/-- The operand bytes of an opcode's entry make an instruction that the opcode begins. -/
theorem fetchOperand_cases {op : Byte} {e : Entry} (he : EntryOk op e) (hc : op ≠ cbByte) (s : State) :
    (∃ i rest, fetchOperand e s = .instr i ∧ encode i = op :: rest) ∨ ∃ x, fetchOperand e s = .fatal (.outOfRange x) := by
  cases e with
  | bare i => exact .inl ⟨i, [], rfl, he.1⟩
  | byte f =>
    cases h : s.fetch8 with
    | ok y => exact .inl ⟨f y.1, [y.1], by simp only [fetchOperand, h], (he y.1 hc).1⟩
    | error x => exact .inr ⟨x, by simp only [fetchOperand, h]⟩
  | word f =>
    cases h : s.fetch16 with
    | ok y => exact .inl ⟨f y.1, [loByte y.1, hiByte y.1], by simp only [fetchOperand, h], (he y.1).1⟩
    | error x => exact .inr ⟨x, by simp only [fetchOperand, h]⟩

theorem cbEntry_key (sub : Byte) : (cbEntry sub).key = .cb sub := by
  simp [Instr.key, (cbEntry_ok sub).1]

/-- An instruction that is fetched has an entry, and the byte at PC is its first. -/
theorem fetchInstr_eq_instr {s : State} {i : Instr} (h : fetchInstr s = .instr i) :
    s.cfg.implements i.key = true ∧ ∃ rest, encode i = s.byteAt s.pc :: rest := by
  cases hin : s.inRange s.pc with
  | false => exact absurd ((fetchInstr_of_no_opcode hin).symm.trans h) nofun
  | true =>
    by_cases hc : s.byteAt s.pc = cbByte
    · rw [fetchInstr_of_cb hin hc] at h
      rcases fetchSub_cases s.pc (s.setPc (s.pc + 1)) with ⟨hk, e⟩ | ⟨r, e⟩ <;> rw [e] at h <;> cases h
      exact ⟨(cbEntry_key _).symm ▸ hk, _, hc ▸ (cbEntry_ok _).1⟩
    · cases hk : s.cfg.implements (.primary (s.byteAt s.pc)) with
      | false => exact absurd ((fetchInstr_of_unimplemented hin hc hk).symm.trans h) nofun
      | true =>
        rw [fetchInstr_of_opcode hin rfl hc hk] at h
        rcases fetchOperand_cases (primaryEntry_ok _) hc (s.setPc (s.pc + 1)) with ⟨j, rest, e, hbytes⟩ | ⟨x, e⟩ <;>
          rw [e] at h <;> cases h
        exact ⟨(Instr.key_of_encode hbytes hc).symm ▸ hk, rest, hbytes⟩

theorem implements_of_removed_nil {p : Params} (h : p.removed = []) (k : Key) : p.implements k = k.legal := by
  simp [Params.implements, h]

/-- Where every address exists and no key is taken out, a fetch ends in a fatal condition at an illegal opcode alone. -/
theorem fetchInstr_of_full {s : State} (hfull : s.FullMemory) (hrem : s.cfg.removed = []) :
    (∃ i, fetchInstr s = .instr i) ∨
      s.byteAt s.pc ∈ illegalOpcodes ∧ fetchInstr s = .fatal (.unimplementedOpcode (s.byteAt s.pc) s.pc false) := by
  have hin := State.inRange_of_full hfull
  by_cases hc : s.byteAt s.pc = cbByte
  · have hk := implements_of_removed_nil hrem (.cb (s.byteAt (s.pc + 1)))
    exact .inl ⟨_, (fetchInstr_of_cb (hin _) hc).trans (fetchSub_ok (s := s.setPc (s.pc + 1)) (hin _) hk)⟩
  · by_cases hill : s.byteAt s.pc ∈ illegalOpcodes
    · exact .inr ⟨hill, fetchInstr_of_unimplemented (hin _) hc (s.cfg.implements_of_illegal hill)⟩
    · have hk : s.cfg.implements (.primary (s.byteAt s.pc)) = true := by
        rw [implements_of_removed_nil hrem]
        simpa [Key.legal] using hill
      rw [fetchInstr_of_opcode (hin _) rfl hc hk]
      cases primaryEntry (s.byteAt s.pc) with
      | bare i => exact .inl ⟨i, rfl⟩
      | byte f =>
        rw [fetchOperand, State.fetch8_ok (s := s.setPc (s.pc + 1)) (hin _)]
        exact .inl ⟨_, rfl⟩
      | word f =>
        rw [fetchOperand, State.fetch16_ok (s := s.setPc (s.pc + 1)) (hin _) (hin _)]
        exact .inl ⟨_, rfl⟩

/-! Bytes at PC that decode. -/

/-- A byte of the window, and that its address is one of the window's. -/
theorem byteAt_of_window {s : State} {n k : Nat} {v : Byte} (h : (window s n)[k]? = some v) :
    k < n ∧ s.byteAt (s.pc + BitVec.ofNat 16 k) = v := by
  obtain ⟨hk, hv⟩ := List.getElem?_eq_some_iff.mp h
  rw [window, List.length_map, List.length_range] at hk
  refine ⟨hk, ?_⟩
  simpa [window] using hv

theorem encode_ne_nil (i : Instr) : encode i ≠ [] := by
  rcases layout i with ⟨_, h⟩ | ⟨_, _, h⟩ | ⟨_, _, _, _, h, _⟩ | ⟨_, _, _, _, _, h, _⟩ <;> rw [h] <;> nofun

/-- The key of an instruction decoded from a byte other than 0xCB. -/
theorem key_of_decode {op : Byte} {tail rest : List Byte} {i : Instr} (h : decode (op :: tail) = .ok (i, rest))
    (hc : op ≠ cbByte) : i.key = .primary op := by
  obtain ⟨op', operands, hbytes⟩ := List.exists_cons_of_ne_nil (encode_ne_nil i)
  obtain ⟨heq, _⟩ := eq_encode_of_decode h
  rw [hbytes] at heq
  obtain ⟨rfl, _⟩ := List.cons.inj heq
  exact Instr.key_of_encode hbytes hc

/-- Bytes at PC that exist and decode to an instruction with an entry are fetched as that instruction. -/
theorem fetchInstr_of_decode {s : State} {n : Nat} {i : Instr} {rest : List Byte} (hex : WindowExists s n)
    (hdec : decode (window s n) = .ok (i, rest)) (hk : s.cfg.implements i.key = true) : fetchInstr s = .instr i := by
  have hbyte {k : Nat} {v : Byte} (h : (window s n)[k]? = some v) :
      s.inRange (s.pc + BitVec.ofNat 16 k) = true ∧ s.byteAt (s.pc + BitVec.ofNat 16 k) = v :=
    ⟨hex k (byteAt_of_window h).1, (byteAt_of_window h).2⟩
  cases hw : window s n with
  | nil =>
    rw [hw] at hdec
    exact absurd hdec nofun
  | cons op tail =>
    rw [hw] at hdec hbyte
    obtain ⟨hin, hop⟩ := hbyte (k := 0) rfl
    have hpc : s.pc + BitVec.ofNat 16 0 = s.pc := BitVec.add_zero s.pc
    rw [hpc] at hin hop
    rcases decode_cons_cases hdec with ⟨sub, rfl, rfl, rfl⟩ | ⟨hc, hentry⟩
    · obtain ⟨hin1, hsub⟩ := hbyte (k := 1) rfl
      rw [cbEntry_key] at hk
      rw [fetchInstr_of_cb hin hop, ← hsub]
      exact fetchSub_ok (s := s.setPc (s.pc + 1)) hin1 (hsub ▸ hk)
    · rw [key_of_decode hdec hc] at hk
      rw [fetchInstr_of_opcode hin hop hc hk]
      rcases hentry with ⟨he, rfl⟩ | ⟨f, v, he, rfl, rfl⟩ | ⟨f, lo, hi, he, rfl, rfl⟩ <;> rw [he, fetchOperand]
      · obtain ⟨hin1, hv⟩ := hbyte (k := 1) rfl
        rw [State.fetch8_ok (s := s.setPc (s.pc + 1)) hin1, ← hv]
        rfl
      · obtain ⟨hin1, hlo⟩ := hbyte (k := 1) rfl
        obtain ⟨hin2, hhi⟩ := hbyte (k := 2) rfl
        have haddr : s.pc + BitVec.ofNat 16 2 = s.pc + 1 + 1 := (State.sp_add_two s.pc).symm
        rw [haddr] at hin2 hhi
        rw [State.fetch16_ok (s := s.setPc (s.pc + 1)) hin1 hin2, ← hlo, ← hhi]
        rfl

end Sys2Proof.Machine
end

section
/-! What a step that answers a next state has done, and the statements about the engine that follow from it
(spec/40_engine.md, spec/60_exceptions.md). -/

namespace Sys2Proof.Machine

open Claim

/-! The frame check and the injected call. -/

theorem frameChecked_frameCheck (t : State) : FrameChecked t t.frameCheck := by
  refine ⟨fun hle => ?below, fun hlt => ?above⟩
  case below => rw [State.frameCheck, if_neg (Nat.not_lt.mpr hle)]
  case above =>
    rw [State.frameCheck, if_pos hlt]
    exact ⟨rfl, t.hook_byteAt_eq, rfl⟩

@[simp] theorem State.isHalted_frameCheck (s : State) : s.frameCheck.isHalted = s.isHalted :=
  State.isHalted_of_run s.frameCheck_run

/-- The state an injected call leaves whose push succeeds, before the frame check (R379). -/
def State.interrupted (s : State) (v : IrqVector) : State :=
  { (((s.setIme false).setRun .running).pushed s.pc).setPc v.address with cycles := s.cycles + 20 }

/-! Illegal opcodes. -/

/-- A row whose meaning is the fatal condition has no legal key. -/
theorem key_of_shape_illegal {i : Instr} {op : Byte} (h : (shape i).2 = .illegal op) : i.key.legal = false := by
  cases i
  case illegal_d3 | illegal_db | illegal_dd | illegal_e3 | illegal_e4 | illegal_eb | illegal_ec | illegal_ed | illegal_f4
    | illegal_fc | illegal_fd => rfl
  all_goals exact absurd h nofun

/-- All a legal instruction can answer: it retires, or an access is out of range. -/
theorem exec_legal_cases {i : Instr} (hlegal : i.key.legal = true) (s : State) :
    (∃ u taken, Keeps s u ∧ exec i s = .next (u.retire i.key taken)) ∨
      ∃ x, s.inRange x = false ∧ exec i s = .next (s.halt (.outOfRange x)) := by
  rcases exec_cases i s with h | h | ⟨op, hshape, _⟩
  · exact .inl h
  · exact .inr h
  · exact absurd (hlegal.symm.trans (key_of_shape_illegal hshape)) nofun

/-- EVERYTHING A STEP THAT ANSWERS A NEXT STATE CAN HAVE DONE: two ways to halt, three ways to end in the frame check, and a
sleeping core that woke or slept on. -/
inductive StepResult (s : State) : State → Prop
  | fetchHalted (r : FaultRecord) (hrun : s.run = .running) (hfetch : fetchInstr s.nextBoundary = .fatal r) :
      StepResult s (s.nextBoundary.halt r)
  | accessHalted (x : Word) (hout : s.inRange x = false) : StepResult s (s.nextBoundary.halt (.outOfRange x))
  | executed (i : Instr) (u : State) (taken : Bool) (hrun : s.run = .running) (hfetch : fetchInstr s.nextBoundary = .instr i)
      (hkeeps : Keeps s.nextBoundary u) (hexec : exec i s.nextBoundary = .next (u.retire i.key taken)) :
      StepResult s (u.retire i.key taken).frameCheck
  | interrupted (v : IrqVector) (hrequest : s.request = .irq v) (hhi : s.inRange (s.sp - 1) = true)
      (hlo : s.inRange (s.sp - 2) = true) : StepResult s (s.nextBoundary.interrupted v).frameCheck
  | idled (hrun : s.run = .sleeping .halt) : StepResult s s.nextBoundary.idle.frameCheck
  | woke : StepResult s s.nextBoundary.wake
  | slept (hrun : s.run = .sleeping .stop) : StepResult s s.nextBoundary

theorem State.inRange_nextBoundary (s : State) (x : Word) : s.nextBoundary.inRange x = s.inRange x :=
  State.inRange_of_cfg s.nextBoundary_cfg x

theorem State.byteAt_nextBoundary (s : State) (x : Word) : s.nextBoundary.byteAt x = s.byteAt x :=
  State.byteAt_of_mem s.nextBoundary_mem x

theorem State.isHalted_of_running {s : State} (h : s.run = .running) : s.isHalted = false := by
  simp [State.isHalted, h]

/-- An instruction that retires in a state that is not halted does not halt the core. -/
theorem Keeps.isHalted_eq_false {s u : State} (h : Keeps s u) (hs : s.isHalted = false) : u.isHalted = false :=
  Bool.eq_false_iff.mpr fun hu => Bool.eq_false_iff.mp hs (h.running hu)

/-- A running core that runs an instruction. -/
theorem stepResult_of_runInstr {s t : State} (hrun : s.run = .running) (h : runInstr s.nextBoundary = .next t) :
    StepResult s t := by
  rcases runInstr_cases s.nextBoundary with ⟨r, hfetch, e⟩ | ⟨i, hfetch, e⟩
  · cases e.symm.trans h
    exact .fetchHalted r hrun hfetch
  · have hlive : s.nextBoundary.isHalted = false := State.isHalted_of_running (s.nextBoundary_run.trans hrun)
    have hlegal : i.key.legal = true := (Bool.and_eq_true_iff.mp (fetchInstr_eq_instr hfetch).1).1
    rcases exec_legal_cases hlegal s.nextBoundary with ⟨u, taken, hkeeps, hexec⟩ | ⟨x, hout, hexec⟩
    · rw [hexec, settleOutcome_next,
        State.settle_of_not_halted (s := u.retire i.key taken) (hkeeps.isHalted_eq_false hlive)] at e
      cases e.symm.trans h
      exact .executed i u taken hrun hfetch hkeeps hexec
    · rw [hexec, settleOutcome_next, State.settle_of_halted (State.halt_isHalted _ _)] at e
      cases e.symm.trans h
      exact .accessHalted x ((s.inRange_nextBoundary x).symm.trans hout)

/-- The injected call, its frame check made (R379). -/
theorem stepResult_of_injectedCall {s : State} {v : IrqVector} (hrequest : s.request = .irq v) :
    StepResult s (s.nextBoundary.injectedCall v).settle := by
  rcases s.nextBoundary.injectedCall_cases v with ⟨hhi, hlo, e⟩ | ⟨x, hout, e⟩
  · rw [s.inRange_nextBoundary, s.nextBoundary_sp] at hhi hlo
    rw [e, State.settle_of_not_halted (State.isHalted_of_running rfl)]
    exact .interrupted v hrequest hhi hlo
  · rw [e, State.settle_of_halted (State.halt_isHalted _ _)]
    exact .accessHalted x ((s.inRange_nextBoundary x).symm.trans hout)

theorem stepResult_of_step {s t : State} (h : step s = .next t) : StepResult s t := by
  rcases step_cases s with ⟨_, _, e⟩ | ⟨hrun, e⟩ | ⟨v, _, hrequest, _, e⟩ | ⟨k, _, _, e⟩ | ⟨hrun, _, e⟩ | ⟨hrun, _, e⟩
  · exact absurd (e.symm.trans h) nofun
  · exact stepResult_of_runInstr hrun (e.symm.trans h)
  all_goals cases e.symm.trans h
  · exact stepResult_of_injectedCall hrequest
  · exact .woke
  · exact .idled hrun
  · exact .slept hrun

/-! Fatal conditions. -/

/-- A step that ends in Halted ends one of the two ways to halt, neither of which changes anything but the run state. -/
theorem StepResult.halted_cases {s t : State} (h : StepResult s t) (ht : t.isHalted = true) :
    (∃ r, s.run = .running ∧ fetchInstr s.nextBoundary = .fatal r ∧ t = s.nextBoundary.halt r) ∨
      ∃ x, s.inRange x = false ∧ t = s.nextBoundary.halt (.outOfRange x) := by
  cases h with
  | fetchHalted r hrun hfetch => exact .inl ⟨r, hrun, hfetch, rfl⟩
  | accessHalted x hout => exact .inr ⟨x, hout, rfl⟩
  | executed i u taken hrun _ hkeeps =>
    have hlive : s.nextBoundary.isHalted = false := State.isHalted_of_running (s.nextBoundary_run.trans hrun)
    rw [State.isHalted_frameCheck] at ht
    exact absurd ((hkeeps.isHalted_eq_false hlive).symm.trans ht) nofun
  | interrupted v => exact absurd ((State.isHalted_frameCheck _).symm.trans ht) nofun
  | idled hrun => exact absurd ht (by simp [State.isHalted, hrun])
  | woke => exact absurd ht nofun
  | slept hrun => exact absurd ht (by simp [State.isHalted, hrun])

/-- From a halted state no step leads on (R141). -/
theorem step_of_halted {s : State} {r : FaultRecord} (h : s.run = .halted r) : step s = .fault (.halted r) := by
  rw [step, coreStep, h]

theorem coreRun_of_fault {M : Host.Core} {s : M.State} {r : M.Fault} (h : M.step s = .fault r) (k : Nat) :
    M.run (k + 1) s = .fault r := by
  rw [Host.Core.run, h]

/-- Settles O53: both ways to halt answer `State.halt` of the state behind the boundary (`StepResult.halted_cases`), and a run
from a halted state ends at its first step. -/
theorem fatalConditionsArePreciseAndTerminal : Obligations.FatalConditionsArePreciseAndTerminal := by
  refine ⟨fun s t h ht => ⟨?_, s.nextBoundary_mem⟩, fun s r k h => coreRun_of_fault (step_of_halted h) k⟩
  rw [← s.nextBoundary_run]
  rcases (stepResult_of_step h).halted_cases ht with ⟨r, _, _, rfl⟩ | ⟨x, _, rfl⟩ <;> rfl

/-- Settles O54: where every address exists, a legal instruction retires (`exec_legal_cases`), which counts it, adds its cost
and does not halt the core. -/
theorem legalInstructionsComplete : Obligations.LegalInstructionsComplete := by
  intro i s hlegal hfull hlive
  rcases exec_legal_cases hlegal s with ⟨u, taken, hkeeps, e⟩ | ⟨x, hout, _⟩
  · refine ⟨_, e, congrArg (· + 1) hkeeps.icount, hkeeps.isHalted_eq_false hlive, ?_⟩
    rw [State.retire_cycles, hkeeps.cycles]
    exact Nat.le_add_right _ _
  · exact absurd ((State.inRange_of_full hfull x).symm.trans hout) nofun

/-- A step from a state that is not halted answers a next state. -/
theorem step_next {s : State} (h : s.isHalted = false) : ∃ t, step s = .next t := by
  rcases step_cases s with ⟨r, hrun, _⟩ | ⟨_, e⟩ | ⟨v, _, _, _, e⟩ | ⟨k, _, _, e⟩ | ⟨_, _, e⟩ | ⟨_, _, e⟩
  · exact absurd (((s.isHalted_iff).mpr ⟨r, hrun⟩).symm.trans h) nofun
  · rcases runInstr_cases s.nextBoundary with ⟨r, _, e'⟩ | ⟨i, _, e'⟩
    · exact ⟨_, e.trans e'⟩
    · obtain ⟨u, hexec⟩ := exec_next i s.nextBoundary
      exact ⟨_, e.trans (e'.trans (congrArg settleOutcome hexec))⟩
  all_goals exact ⟨_, e⟩

/-- Settles O60: a halt at an access out of range needs an address that does not exist, and where all exist a fetch halts at an
illegal opcode alone (`fetchInstr_of_full`). -/
theorem onlyIllegalOpcodesEndARun : Obligations.OnlyIllegalOpcodesEndARun := by
  intro s hfull hrem hlive
  obtain ⟨t, h⟩ := step_next hlive
  refine ⟨t, h, fun ht => ?_⟩
  rcases (stepResult_of_step h).halted_cases ht with ⟨r, hrun, hfetch, rfl⟩ | ⟨x, hout, _⟩
  · have hcfg := s.nextBoundary_cfg
    rcases fetchInstr_of_full (s := s.nextBoundary) ((congrArg Params.memSize hcfg).trans hfull)
      ((congrArg Params.removed hcfg).trans hrem) with ⟨i, e⟩ | ⟨hill, e⟩
    · exact absurd (e.symm.trans hfetch) nofun
    · rw [s.byteAt_nextBoundary, s.nextBoundary_pc] at hill e
      cases e.symm.trans hfetch
      exact ⟨hrun, hill, rfl⟩
  · exact absurd ((State.inRange_of_full hfull x).symm.trans hout) nofun

/-! The invariant. -/

/-- What the invariant needs of a step, but for the accumulator. -/
structure KeepsForm (s t : State) : Prop where
  cfg : t.cfg = s.cfg
  canonical : Memory.wf s.mem = true → Memory.wf t.mem = true
  stored : (∀ x ∈ s.mem, x.1 < s.cfg.memSize) → ∀ x ∈ t.mem, x.1 < t.cfg.memSize
  lowNibble : s.f &&& 0x0F = 0 → t.f &&& 0x0F = 0

theorem KeepsForm.trans {s t u : State} (h : KeepsForm s t) (k : KeepsForm t u) : KeepsForm s u :=
  ⟨k.cfg.trans h.cfg, fun x => k.canonical (h.canonical x), fun x => k.stored (h.stored x),
    fun x => k.lowNibble (h.lowNibble x)⟩

theorem KeepsForm.of_eq {s t : State} (hcfg : t.cfg = s.cfg) (hmem : t.mem = s.mem) (hf : t.f = s.f) : KeepsForm s t :=
  ⟨hcfg, fun h => hmem ▸ h, fun h => by rw [hmem, hcfg]; exact h, fun h => hf ▸ h⟩

theorem Keeps.keepsForm {s t : State} (h : Keeps s t) : KeepsForm s t := ⟨h.cfg, h.canonical, h.stored, h.lowNibble⟩

theorem KeepsForm.nextBoundary (s : State) : KeepsForm s s.nextBoundary :=
  .of_eq s.nextBoundary_cfg s.nextBoundary_mem s.nextBoundary_f

theorem KeepsForm.frameCheck (s : State) : KeepsForm s s.frameCheck := by
  rcases s.frameCheck_cases with ⟨_, e⟩ | ⟨_, e⟩ <;> rw [e]
  · exact .of_eq rfl rfl rfl
  · exact ⟨rfl, s.hook_wf, s.hook_stored, id⟩

theorem KeepsForm.interrupted {s : State} (v : IrqVector) (hhi : s.inRange (s.sp - 1) = true)
    (hlo : s.inRange (s.sp - 2) = true) : KeepsForm s (s.interrupted v) := by
  have hpush : Keeps ((s.setIme false).setRun .running) (((s.setIme false).setRun .running).pushed s.pc) :=
    Keeps.pushed (s := (s.setIme false).setRun .running) hhi hlo s.pc
  have hcall : KeepsForm s ((s.setIme false).setRun .running) := .of_eq rfl rfl rfl
  exact (hcall.trans hpush.keepsForm).trans (.of_eq rfl rfl rfl)

theorem StepResult.keepsForm {s t : State} (h : StepResult s t) : KeepsForm s t := by
  refine (KeepsForm.nextBoundary s).trans ?_
  cases h with
  | fetchHalted r => exact .of_eq rfl rfl rfl
  | accessHalted x => exact .of_eq rfl rfl rfl
  | executed i u taken _ _ hkeeps =>
    have hretire : KeepsForm u (u.retire i.key taken) := .of_eq rfl rfl rfl
    exact (hkeeps.keepsForm.trans hretire).trans (.frameCheck _)
  | interrupted v _ hhi hlo =>
    rw [← s.inRange_nextBoundary, ← s.nextBoundary_sp] at hhi hlo
    exact (KeepsForm.interrupted v hhi hlo).trans (.frameCheck _)
  | idled => exact KeepsForm.trans (t := s.nextBoundary.idle) (.of_eq rfl rfl rfl) (.frameCheck _)
  | woke => exact .of_eq rfl rfl rfl
  | slept => exact .of_eq rfl rfl rfl

/-- A step leaves the accumulator as it was or ends in the frame check. -/
theorem StepResult.cycles_cases {s t : State} (h : StepResult s t) : t.cycles = s.cycles ∨ ∃ u : State, t = u.frameCheck := by
  cases h with
  | executed => exact .inr ⟨_, rfl⟩
  | interrupted => exact .inr ⟨_, rfl⟩
  | idled => exact .inr ⟨_, rfl⟩
  | fetchHalted | accessHalted | woke | slept => exact .inl s.nextBoundary_cycles

theorem StepResult.cycles_le {s t : State} (h : StepResult s t) (hs : s.cycles ≤ s.cfg.frameCycles) :
    t.cycles ≤ s.cfg.frameCycles := by
  rcases h.cycles_cases with e | ⟨u, rfl⟩
  · exact e ▸ hs
  · rw [← h.keepsForm.cfg, State.frameCheck_cfg]
    exact u.frameCheck_cycles_le

/-- Settles O58: each way a step can end keeps the form of memory and F and the parameters (`StepResult.keepsForm`), and the
frame check brings the accumulator back (`StepResult.cycles_le`). -/
theorem everyStepKeepsTheInvariant : Obligations.EveryStepKeepsTheInvariant := by
  intro s t ⟨hcanonical, hstored, hlow, hcycles, hparams⟩ h
  have hstep := stepResult_of_step h
  have hform := hstep.keepsForm
  refine ⟨⟨hform.canonical hcanonical, hform.stored hstored, hform.lowNibble hlow, ?_, ?_⟩, hform.cfg⟩
  · rw [hform.cfg]
    exact hstep.cycles_le hcycles
  · rw [hform.cfg]
    exact hparams

/-- Settles O59: nothing is listed at construction, F is 0xB0, the accumulator is 0 and the parameters are the defaults. -/
theorem resetMeetsTheInvariant : Obligations.ResetMeetsTheInvariant :=
  ⟨Memory.wf_reset, fun _ h => absurd h List.not_mem_nil, by decide, Nat.zero_le _, by decide⟩

/-! The accumulator. -/

theorem defaultCost_primary_le (op : Byte) : (Key.primary op).defaultCost.1 ≤ 24 ∧ (Key.primary op).defaultCost.2 ≤ 24 := by
  have h (n : Fin 256) : (Key.primary (BitVec.ofNat 8 n.val)).defaultCost.1 ≤ 24 ∧
      (Key.primary (BitVec.ofNat 8 n.val)).defaultCost.2 ≤ 24 := by
    revert n
    decide +kernel
  simpa using h ⟨op.toNat, op.isLt⟩

theorem cbCost_le (sub : Byte) : cbCost sub ≤ 24 := by
  unfold cbCost
  split
  · decide
  · split <;> decide

theorem cost_le_of_no_costs {p : Params} (h : p.costs = []) (k : Key) (taken : Bool) : p.cost k taken ≤ 24 := by
  rw [Params.cost_of_no_costs h]
  cases k with
  | primary op => cases taken <;> simp [defaultCost_primary_le]
  | cb sub => cases taken <;> exact cbCost_le sub

/-- Settles O56: an instruction adds the cost of its key or nothing, and no default cost is above 24; a whole step is bounded by
`StepResult.cycles_le`. -/
theorem cyclesAreBounded : Obligations.CyclesAreBounded := by
  refine ⟨fun i s t hcosts h => ?_, fun s t hs h => (stepResult_of_step h).cycles_le hs⟩
  have hle : t.cycles ≤ s.cycles + 24 := by
    rcases exec_cases i s with ⟨u, taken, hkeeps, e⟩ | ⟨x, _, e⟩ | ⟨op, _, e⟩ <;> cases e.symm.trans h
    · rw [State.retire_cycles, hkeeps.cycles, hkeeps.cfg]
      exact Nat.add_le_add_left (cost_le_of_no_costs hcosts _ _) _
    all_goals exact Nat.le_add_right _ _
  exact ⟨hle, fun hs => Nat.le_trans hle (Nat.add_le_add_right hs 24)⟩

/-! The writers of IME. -/

/-- Settles O52: of the ways a step can end an injected call clears IME, and an executed instruction writes it if it is DI, EI or
RETI (`exec_ime_cases`), whose one byte is the byte fetched at PC (`fetchInstr_eq_instr`). -/
theorem imeHasFourWriters : Obligations.ImeHasFourWriters := by
  intro s t h hne
  cases stepResult_of_step h with
  | interrupted v hrequest => exact .inl ⟨by rw [State.frameCheck_ime]; rfl, v, hrequest⟩
  | executed i u taken hrun hfetch _ hexec =>
    refine .inr ⟨hrun, ?_⟩
    obtain ⟨_, rest, hbytes⟩ := fetchInstr_eq_instr hfetch
    rw [s.byteAt_nextBoundary, s.nextBoundary_pc] at hbytes
    rw [State.frameCheck_ime] at hne ⊢
    rcases exec_ime_cases hexec with hime | ⟨rfl, hime⟩ | ⟨rfl, hime⟩ | ⟨rfl, hime⟩
    · exact absurd (hime.trans s.nextBoundary_ime) hne
    · exact .inl ⟨hime, (List.cons.inj hbytes).1.symm⟩
    · exact .inr ⟨hime, .inl (List.cons.inj hbytes).1.symm⟩
    · exact .inr ⟨hime, .inr (List.cons.inj hbytes).1.symm⟩
  | idled => exact absurd ((State.frameCheck_ime s.nextBoundary.idle).trans s.nextBoundary_ime) hne
  | fetchHalted | accessHalted | woke | slept => exact absurd s.nextBoundary_ime hne

end Sys2Proof.Machine
end

section
/-! What a step does from a state of which the run state, IME and the port's request are known (spec/40_engine.md R138 to R144,
spec/60_exceptions.md R375 to R380). -/

namespace Sys2Proof.Machine

open Claim

theorem State.nextBoundary_of_no_port {s : State} (h : s.cfg.irqPort = false) : s.nextBoundary = s := by
  simp [State.nextBoundary, h]

theorem State.request_of_no_port {s : State} (h : s.cfg.irqPort = false) : s.request = .none := by
  simp [State.request, h]

@[simp] theorem State.frameCheck_pc (s : State) : s.frameCheck.pc = s.pc := by
  rcases s.frameCheck_cases with ⟨_, e⟩ | ⟨_, e⟩ <;> rw [e]; rfl

/-! A running core. -/

theorem runInstr_of_instr {s t : State} {i : Instr} (hfetch : fetchInstr s = .instr i) (hexec : exec i s = .next t) :
    runInstr s = .next t.settle := by
  rw [runInstr, hfetch]
  exact congrArg settleOutcome hexec

/-- Settles O45: bytes that decode are fetched as the instruction (`fetchInstr_of_decode`), which `exec` runs; a halted state is
settled, and any other settles by the frame check. -/
theorem stepRunsTheDecodedInstruction : Obligations.StepRunsTheDecodedInstruction := by
  intro s n i rest hrun hfree hex hdec hk
  have hno : ¬ (s.ime = true ∧ ∃ v, s.request = .irq v) := fun ⟨hime, v, hv⟩ =>
    hfree.elim (fun hclear => absurd (hime.symm.trans hclear) nofun) fun hq => hq v hv
  have hfetch : fetchInstr s.nextBoundary = .instr i := by
    refine fetchInstr_of_decode (n := n) (rest := rest) (fun k hlt => ?_) ?_ (s.nextBoundary_cfg.symm ▸ hk)
    · rw [s.inRange_nextBoundary, s.nextBoundary_pc]
      exact hex k hlt
    · rw [window]
      simp only [s.byteAt_nextBoundary, s.nextBoundary_pc]
      exact hdec
  obtain ⟨t, hexec⟩ := exec_next i s.nextBoundary
  refine ⟨t, t.settle, hexec, ?_, State.settle_of_halted, fun hlive => ?_⟩
  · rw [step_of_running_no_call hrun hno, runInstr_of_instr hfetch hexec]
  · rw [State.settle_of_not_halted hlive]
    exact frameChecked_frameCheck t

/-- Settles O46: the lemmas of each fatal condition of a fetch, of which every one has as premises that those before it do not
hold. -/
theorem fetchConditionsHaltInOrder : Obligations.FetchConditionsHaltInOrder := by
  have hstep {s : State} {r : FaultRecord} (hrun : s.run = .running) (hport : s.cfg.irqPort = false)
      (h : fetchInstr s = .fatal r) : step s = .next (s.halt r) := by
    rw [step_of_running hrun hport, runInstr_of_fatal h]
  refine ⟨fetchStops, fun s hrun hport => ⟨fun hout => ?opcode, fun hin hc hout => ?sub⟩,
    fun s hrun hport hin => ⟨fun hc hk => ?primary, fun hc hin1 hk => ?cb⟩⟩
  case opcode => exact hstep hrun hport (fetchInstr_of_no_opcode hout)
  case sub => exact hstep hrun hport ((fetchInstr_of_cb hin hc).trans (fetchSub_of_missing (s := s.setPc (s.pc + 1)) hout))
  case primary => exact hstep hrun hport (fetchInstr_of_unimplemented hin hc hk)
  case cb =>
    exact hstep hrun hport ((fetchInstr_of_cb hin hc).trans (fetchSub_of_unimplemented (s := s.setPc (s.pc + 1)) hin1 hk))

/-- Settles O47: the state of the instruction settles by the frame check (`frameChecked_frameCheck`), which draws for the
addresses of RENDER_WRITES that exist. -/
theorem frameHookFiresAboveTheThreshold : Obligations.FrameHookFiresAboveTheThreshold := by
  intro s t i hrun hport hfetch hexec hlive
  obtain ⟨hbelow, habove⟩ := frameChecked_frameCheck t
  rw [(exec_cfg_port_hookCalls hexec).1] at hbelow habove
  refine ⟨t.frameCheck, ?_, hbelow, fun hlt => ?_⟩
  · rw [step_of_running hrun hport, runInstr_of_instr hfetch hexec, State.settle_of_not_halted hlive]
  · obtain ⟨hcycles, hbytes, hframe⟩ := habove hlt
    exact ⟨hcycles, fun x hx => by rw [hbytes, if_neg fun h => hx h.1], fun x hx hin => by rw [hbytes, if_pos ⟨hx, hin⟩], hframe⟩

/-! A sleeping core without a call. -/

theorem step_of_idle {s : State} (hrun : s.run = .sleeping .halt) (hq : s.request = .none) :
    step s = .next s.nextBoundary.idle.frameCheck := by
  simp only [step, coreStep, hrun, stepHaltSleep, hq]

theorem step_of_stop {s : State} (hrun : s.run = .sleeping .stop) (hq : s.request = .none) :
    step s = .next s.nextBoundary := by
  simp only [step, coreStep, hrun, stepStopSleep, hq]

/-- Settles O48: an idle period is 4 cycles and the frame check, which writes neither the run state nor PC. -/
theorem sleepingCoresIdle : Obligations.SleepingCoresIdle := by
  intro s hq
  refine ⟨fun hrun => ⟨_, step_of_idle hrun hq, ?checked, ?run, ?pc⟩, fun hrun => step_of_stop hrun hq,
    State.nextBoundary_of_no_port⟩
  case checked =>
    rw [← s.nextBoundary_cycles]
    exact frameChecked_frameCheck s.nextBoundary.idle
  case run => simp
  case pc => exact (State.frameCheck_pc _).trans s.nextBoundary_pc

/-- A request wakes a sleeping core unless it is a call taken in Sleeping(Halt) (R379, R380). -/
theorem step_of_woken {s : State} {k : SleepKind} (hrun : s.run = .sleeping k) (hq : s.request ≠ .none)
    (hno : ¬ (k = .halt ∧ s.ime = true ∧ ∃ v, s.request = .irq v)) : step s = .next s.nextBoundary.wake := by
  rcases step_cases s with ⟨r, hrun', _⟩ | ⟨hrun', _⟩ | ⟨v, hrun', hv, hime, _⟩ | ⟨_, _, _, e⟩ | ⟨_, hq', _⟩ | ⟨_, hq', _⟩
  case inr.inr.inr.inl => exact e
  case inr.inr.inl =>
    rcases hrun' with hrun' | hrun' <;> cases hrun.symm.trans hrun'
    exact absurd ⟨rfl, hime, v, hv⟩ hno
  case inl | inr.inl => exact absurd (hrun.symm.trans hrun') nofun
  all_goals exact absurd hq' hq

/-- A request that is not taken leaves a running core the step of one to which nothing is presented. -/
theorem step_of_ignored {s : State} (hrun : s.run = .running) (hq : s.request ≠ .none)
    (hno : ¬ (s.ime = true ∧ ∃ v, s.request = .irq v)) : step s = step { s with port := .none :: s.port.tail } := by
  have hport : s.cfg.irqPort = true := by
    cases h : s.cfg.irqPort with
    | true => rfl
    | false => exact absurd (State.request_of_no_port h) hq
  have hrequest : State.request { s with port := .none :: s.port.tail } = .none := by
    simp [State.request, hport]
  have hnext : State.nextBoundary { s with port := .none :: s.port.tail } = s.nextBoundary := by
    simp [State.nextBoundary, hport]
  rw [step_of_running_no_call hrun hno, ← hnext]
  exact (step_of_running_no_call (s := { s with port := .none :: s.port.tail }) hrun
    fun ⟨_, v, hv⟩ => absurd (hrequest.symm.trans hv) nofun).symm

/-- Settles O50: a wake is no call, so a sleeping core wakes (`step_of_woken`) and a running core ignores it
(`step_of_ignored`). -/
theorem wakeOnlyRuns : Obligations.WakeOnlyRuns := by
  intro s
  refine ⟨fun hq ⟨k, hrun⟩ => step_of_woken hrun ?_ ?_, fun hq hrun => step_of_ignored hrun ?_ ?_⟩ <;> simp [hq]

/-! The injected call. -/

/-- Where both stack bytes exist the call is made (R379). -/
theorem State.injectedCall_ok {s : State} (hs : PushExists s) (v : IrqVector) : s.injectedCall v = s.interrupted v := by
  obtain ⟨hhi, hlo⟩ := hs
  rw [State.injectedCall, State.push16_ok (s := (s.setIme false).setRun .running) hhi hlo]
  rfl

/-- Where one does not, the step ends as a push does. -/
theorem State.injectedCall_stops (s : State) (v : IrqVector) : PushStops s (.next (s.injectedCall v)) := by
  refine ⟨fun hhi => ?_, fun hhi hlo => ?_⟩ <;> rw [State.injectedCall]
  · rw [State.push16_error_high (s := (s.setIme false).setRun .running) hhi]
    rfl
  · rw [State.push16_error_low (s := (s.setIme false).setRun .running) hhi hlo]
    rfl

/-- The two run states in which a call is taken when IME is set (R379). -/
theorem step_of_call {s : State} {v : IrqVector} (hrun : s.run = .running ∨ s.run = .sleeping .halt) (hime : s.ime = true)
    (hq : s.request = .irq v) : step s = .next (s.nextBoundary.injectedCall v).settle := by
  rcases hrun with hrun | hrun
  · exact step_of_running_call hrun hime hq
  · simp [step, coreStep, hrun, stepHaltSleep, hq, hime]

theorem State.storesPushed_interrupted (s : State) (v : IrqVector) :
    StoresPushed s (s.interrupted v) (hiByte s.pc) (loByte s.pc) :=
  fun x => State.byteAt_pushed ((s.setIme false).setRun .running) s.pc x

theorem State.interrupted_frame (s : State) (v : IrqVector) :
    { s.interrupted v with ime := s.ime, run := s.run, pc := s.pc, sp := s.sp, cycles := s.cycles, mem := s.mem } = s := by
  simp [State.interrupted]

/-- What a call leaves that is made, before the frame check. -/
theorem step_of_call_ok {s : State} {v : IrqVector} (hstep : step s = .next (s.nextBoundary.injectedCall v).settle)
    (hs : PushExists s) :
    ∃ t u, step s = .next u ∧ FrameChecked t u ∧
      t.ime = false ∧ t.run = .running ∧ t.pc = v.address ∧ t.sp = s.sp - 2 ∧ t.cycles = s.cycles + 20 ∧
      StoresPushed s t (hiByte s.pc) (loByte s.pc) ∧
      { t with ime := s.ime, run := s.run, pc := s.pc, sp := s.sp, cycles := s.cycles, mem := s.mem } = s.nextBoundary := by
  have hs' : PushExists s.nextBoundary := by
    rw [PushExists, s.inRange_nextBoundary, s.inRange_nextBoundary, s.nextBoundary_sp]
    exact hs
  rw [State.injectedCall_ok hs', State.settle_of_not_halted (State.isHalted_of_running rfl)] at hstep
  refine ⟨_, _, hstep, frameChecked_frameCheck _, rfl, rfl, rfl, ?sp, ?cycles, fun x => ?bytes, ?frame⟩
  case sp => exact congrArg (· - 2) s.nextBoundary_sp
  case cycles => exact congrArg (· + 20) s.nextBoundary_cycles
  case bytes =>
    rw [← s.nextBoundary_sp, ← s.nextBoundary_pc, ← s.byteAt_nextBoundary]
    exact State.storesPushed_interrupted s.nextBoundary v x
  case frame =>
    rw [← s.nextBoundary_ime, ← s.nextBoundary_run, ← s.nextBoundary_pc, ← s.nextBoundary_sp, ← s.nextBoundary_cycles,
      ← s.nextBoundary_mem]
    exact State.interrupted_frame s.nextBoundary v

/-- A call whose push fails is a fatal halt, which is settled. -/
theorem step_of_call_stops {s : State} {v : IrqVector} (hstep : step s = .next (s.nextBoundary.injectedCall v).settle) :
    (s.inRange (s.sp - 1) = false → step s = endsOutOfRange s.nextBoundary (s.sp - 1)) ∧
    (s.inRange (s.sp - 1) = true → s.inRange (s.sp - 2) = false → step s = endsOutOfRange s.nextBoundary (s.sp - 2)) := by
  have hsettled {x : Word} (h : s.nextBoundary.injectedCall v = s.nextBoundary.halt (.outOfRange x)) :
      step s = endsOutOfRange s.nextBoundary x := by
    rw [hstep, h, State.settle_of_halted (State.halt_isHalted _ _)]
    rfl
  obtain ⟨hhigh, hlow⟩ := State.injectedCall_stops s.nextBoundary v
  rw [s.inRange_nextBoundary, s.nextBoundary_sp] at hhigh
  rw [s.inRange_nextBoundary, s.inRange_nextBoundary, s.nextBoundary_sp] at hlow
  exact ⟨fun hhi => hsettled (Host.Outcome.next.inj (hhigh hhi)),
    fun hhi hlo => hsettled (Host.Outcome.next.inj (hlow hhi hlo))⟩

/-- Settles O49: a call taken is made where both stack bytes exist (`step_of_call_ok`) and else halts (`step_of_call_stops`); with
IME clear it is no call, so a running core ignores it and a sleeping one wakes; Sleeping(Stop) takes none. -/
theorem injectedCallsAreTaken : Obligations.InjectedCallsAreTaken := by
  refine ⟨⟨rfl, rfl, rfl, rfl, rfl⟩, fun s v hq => ⟨fun hime hrun => ?taken, fun hime hrun => ?ignored, fun h => ?woken⟩⟩
  case taken =>
    have hstep := step_of_call hrun hime hq
    exact ⟨step_of_call_ok hstep, step_of_call_stops hstep⟩
  case ignored => exact step_of_ignored hrun (by simp [hq]) (by simp [hime])
  case woken =>
    rcases h with hrun | ⟨hrun, hime⟩
    · exact step_of_woken hrun (by simp [hq]) (by simp)
    · exact step_of_woken hrun (by simp [hq]) (by simp [hime])

/-! IME with the port tied off (R375). -/

/-! What is fetched does not depend on the control state. -/

theorem State.fetch8_withControl (s : State) (c : Control) :
    (s.withControl c).fetch8 = (fun x => (x.1, x.2.withControl c)) <$> s.fetch8 :=
  access_bind_map (ψ := id) (id_map _).symm fun _ => rfl

theorem State.fetch16_withControl (s : State) (c : Control) :
    (s.withControl c).fetch16 = (fun x => (x.1, x.2.withControl c)) <$> s.fetch16 :=
  access_bind_map (s.fetch8_withControl c) fun x => access_bind_map (x.2.fetch8_withControl c) fun _ => rfl

theorem fetchSub_withControl (start : Word) (s : State) (c : Control) :
    fetchSub start (s.withControl c) = fetchSub start s := by
  rw [fetchSub, s.fetch8_withControl, fetchSub]
  cases s.fetch8 <;> rfl

theorem fetchOperand_withControl (e : Entry) (s : State) (c : Control) :
    fetchOperand e (s.withControl c) = fetchOperand e s := by
  cases e with
  | bare i => rfl
  | byte f =>
    rw [fetchOperand, s.fetch8_withControl, fetchOperand]
    cases s.fetch8 <;> rfl
  | word f =>
    rw [fetchOperand, s.fetch16_withControl, fetchOperand]
    cases s.fetch16 <;> rfl

theorem fetchInstr_withControl (s : State) (c : Control) : fetchInstr (s.withControl c) = fetchInstr s := by
  rw [fetchInstr, s.fetch8_withControl, fetchInstr]
  cases s.fetch8 with
  | error x => rfl
  | ok y =>
    have hsub := fetchSub_withControl s.pc y.2 c
    have hoperand := fetchOperand_withControl (primaryEntry y.1) y.2 c
    change (if y.1 = cbByte then fetchSub s.pc (y.2.withControl c)
      else if s.cfg.implements (.primary y.1) then fetchOperand (primaryEntry y.1) (y.2.withControl c) else _) = _
    rw [hsub, hoperand]
    rfl

/-- The state with another IME and another port. -/
def State.withImePort (s : State) (b : Bool) (requests : List PortRequest) : State := { s with ime := b, port := requests }

def Control.withImePort (c : Control) (b : Bool) (requests : List PortRequest) : Control :=
  { c with ime := b, port := requests }

/-- A control state that differs in IME and the port alone. -/
theorem State.withControl_eq_withImePort {s : State} {c : Control} (hrun : c.run = s.run) (hcycles : c.cycles = s.cycles)
    (hcosts : c.costs = s.cfg.costs) : s.withControl c = s.withImePort c.ime c.port := by
  rw [State.withControl, hrun, hcycles, hcosts]
  rfl

/-- The frame check neither reads nor writes the two. -/
theorem State.frameCheck_withImePort (s : State) (b : Bool) (requests : List PortRequest) :
    (s.withImePort b requests).frameCheck = s.frameCheck.withImePort b requests := by
  rcases s.frameCheck_cases with ⟨hle, e⟩ | ⟨hlt, e⟩ <;> rw [e]
  · exact if_neg (Nat.not_lt.mpr hle)
  · exact if_pos hlt

theorem State.settle_withImePort (s : State) (b : Bool) (requests : List PortRequest) :
    (s.withImePort b requests).settle = s.settle.withImePort b requests := by
  cases hs : s.isHalted with
  | true => rw [State.settle_of_halted hs, State.settle_of_halted (s := s.withImePort b requests) hs]
  | false =>
    rw [State.settle_of_not_halted hs, State.settle_of_not_halted (s := s.withImePort b requests) hs,
      State.frameCheck_withImePort]

/-- From a state that differs in the two an instruction answers one that does. -/
theorem exec_withImePort {i : Instr} {s t : State} (b : Bool) (requests : List PortRequest) (h : exec i s = .next t) :
    ∃ b' requests', exec i (s.withImePort b requests) = .next (t.withImePort b' requests') := by
  obtain ⟨g, hsep, hg⟩ := exec_withControl h
  have ht := control_of_exec_withControl h hg
  have hagree : (g (s.control.withImePort b requests)).run = t.control.run ∧
      (g (s.control.withImePort b requests)).cycles = t.control.cycles ∧
      (g (s.control.withImePort b requests)).costs = t.control.costs := by
    rw [ht]
    exact ⟨hsep.run rfl, hsep.cycles rfl rfl, hsep.costs rfl⟩
  obtain ⟨hrun, hcycles, hcosts⟩ := hagree
  exact ⟨_, _, (hg _).trans (congrArg _ (State.withControl_eq_withImePort hrun hcycles hcosts))⟩

theorem runInstr_withImePort {s t : State} (b : Bool) (requests : List PortRequest) (h : runInstr s = .next t) :
    ∃ b' requests', runInstr (s.withImePort b requests) = .next (t.withImePort b' requests') := by
  have hfetched : fetchInstr (s.withImePort b requests) = fetchInstr s :=
    fetchInstr_withControl s (s.control.withImePort b requests)
  rcases runInstr_cases s with ⟨r, hfetch, e⟩ | ⟨i, hfetch, e⟩
  · cases e.symm.trans h
    exact ⟨b, requests, runInstr_of_fatal (hfetched.trans hfetch)⟩
  · obtain ⟨u, hexec⟩ := exec_next i s
    rw [hexec, settleOutcome_next] at e
    cases e.symm.trans h
    obtain ⟨b', requests', hexec'⟩ := exec_withImePort b requests hexec
    refine ⟨b', requests', ?_⟩
    rw [← State.settle_withImePort]
    exact runInstr_of_instr (hfetched.trans hfetch) hexec'

theorem step_of_idle_no_port {s : State} (hrun : s.run = .sleeping .halt) (hport : s.cfg.irqPort = false) :
    step s = .next s.idle.frameCheck := by
  rw [step_of_idle hrun (State.request_of_no_port hport), State.nextBoundary_of_no_port hport]

theorem step_of_stop_no_port {s : State} (hrun : s.run = .sleeping .stop) (hport : s.cfg.irqPort = false) :
    step s = .next s := by
  rw [step_of_stop hrun (State.request_of_no_port hport), State.nextBoundary_of_no_port hport]

theorem step_withImePort {s t : State} (b : Bool) (requests : List PortRequest) (hport : s.cfg.irqPort = false)
    (h : step s = .next t) : ∃ b' requests', step (s.withImePort b requests) = .next (t.withImePort b' requests') := by
  cases hrun : s.run with
  | halted r => exact absurd ((step_of_halted hrun).symm.trans h) nofun
  | running =>
    rw [step_of_running hrun hport] at h
    rw [step_of_running (s := s.withImePort b requests) hrun hport]
    exact runInstr_withImePort b requests h
  | sleeping k =>
    cases k with
    | halt =>
      cases (step_of_idle_no_port hrun hport).symm.trans h
      exact ⟨b, requests, (step_of_idle_no_port (s := s.withImePort b requests) hrun hport).trans
        (congrArg _ (s.idle.frameCheck_withImePort b requests))⟩
    | stop =>
      cases (step_of_stop_no_port hrun hport).symm.trans h
      exact ⟨b, requests, step_of_stop_no_port (s := s.withImePort b requests) hrun hport⟩

/-- Settles O51: with the port tied off nothing is requested, so a step runs an instruction, idles or sleeps on by the run state
alone; what an instruction answers depends on IME and the port in these two alone (`exec_withImePort`), and the frame check on
neither. -/
theorem imeAffectsNothingElse : Obligations.ImeAffectsNothingElse := by
  intro s t b requests hport h
  obtain ⟨b', requests', hstep⟩ := step_withImePort b requests hport h
  exact ⟨_, hstep, rfl⟩

end Sys2Proof.Machine
end

section
/-! The flags and the bytes an instruction writes (spec/10_state.md R34 to R37, spec/20_memory.md section 5): every rule keeps
the others, and the rule each row runs writes what the row's key says. -/

namespace Sys2Proof.Machine

open Claim

/-! Flags. -/

/-- The flags a rule writes. -/
def Rule.writes : Rule → Flag → Bool
  | .loadHlSp _, _ | .alu _ _, _ | .addSp _, _ | .shiftA _, _ | .shiftLoc _ _, _ | .popPair .af, _ => true
  | .incLoc _, x | .decLoc _, x | .testLoc _ _, x => x != .c
  | .addHl _, x | .setCarry, x | .complementCarry, x => x != .z
  | .decimalAdjust, x => x != .n
  | .complementA, x => x == .n || x == .h
  | .subTable sub, x => writesFlag x (.cb sub)
  | _, _ => false

def Shape.writes : Shape → Flag → Bool
  | .always r, x | .onCond _ r, x => r.writes x
  | .illegal _, _ => false

/-- The rule of each row writes the flags R37 lists for the row. -/
theorem shape_writes (i : Instr) : (shape i).2.writes = fun x => writesFlag x i.key := by
  cases i
  all_goals
    funext x
    cases x <;> exact rfl

/-- The flags outside `w` and F's low nibble are as before. -/
structure FlagsKept (w : Flag → Bool) (s t : State) : Prop where
  flag : ∀ x, w x = false → t.flag x = s.flag x
  lowNibble : t.f &&& 0x0F = s.f &&& 0x0F

theorem FlagsKept.of_f {w : Flag → Bool} {s t : State} (h : t.f = s.f) : FlagsKept w s t :=
  ⟨fun x _ => State.flag_of_f h x, congrArg (· &&& 0x0F) h⟩

/-- A write of flags, where each flag given is one of `w`. What else is written before it does not matter. -/
theorem FlagsKept.withFlags {w : Flag → Bool} {s u : State} {z n h c : Option Bool} (hf : u.f = s.f)
    (hz : w .z = false → z = none) (hn : w .n = false → n = none) (hh : w .h = false → h = none)
    (hc : w .c = false → c = none) : FlagsKept w s (u.withFlags z n h c) := by
  obtain ⟨ez, en, eh, ec, elow⟩ := flagsAre_withFlags (s := s) (z := z) (n := n) (h := h) (c := c) hf rfl
  refine ⟨fun x hx => ?_, elow⟩
  cases x with
  | z => rw [ez, hz hx]; rfl
  | n => rw [en, hn hx]; rfl
  | h => rw [eh, hh hx]; rfl
  | c => rw [ec, hc hx]; rfl

/-- A write of an operand's place writes no flag. -/
theorem State.f_of_writeLoc {s t : State} {x : Loc} {v : Byte} (h : s.writeLoc x v = .ok t) : t.f = s.f := by
  rcases State.of_writeLoc h with ⟨r, _, rfl⟩ | ⟨_, rfl⟩
  · cases r <;> rfl
  · rfl

theorem aluValue_flagsKept (op : AluOp) (v : Byte) (s : State) : FlagsKept (fun _ => true) s (aluValue op v s) := by
  cases op
  case cp => exact .withFlags rfl nofun nofun nofun nofun
  all_goals exact .withFlags (u := s.setReg .a _) rfl nofun nofun nofun nofun

theorem stepLoc_flagsKept {f : Byte → Stepped} {x : Loc} {s t : State} (h : stepLoc f x s = .ok t) :
    FlagsKept (· != .c) s t := by
  obtain ⟨v, _, h⟩ := access_bind h
  obtain ⟨u, hu, h⟩ := access_bind h
  cases h
  exact .withFlags (State.f_of_writeLoc hu) nofun nofun nofun fun _ => rfl

theorem shiftLoc_flagsKept {op : ShiftOp} {x : Loc} {s t : State} (h : shiftLoc op x s = .ok t) :
    FlagsKept (fun _ => true) s t := by
  obtain ⟨v, _, h⟩ := access_bind h
  obtain ⟨u, hu, h⟩ := access_bind h
  cases h
  exact .withFlags (State.f_of_writeLoc hu) nofun nofun nofun nofun

theorem testLoc_flagsKept {b : Fin 8} {x : Loc} {s t : State} (h : testLoc b x s = .ok t) : FlagsKept (· != .c) s t := by
  obtain ⟨v, _, h⟩ := access_bind h
  cases h
  exact .withFlags rfl nofun nofun nofun fun _ => rfl

theorem resetLoc_f {b : Fin 8} {x : Loc} {s t : State} (h : resetLoc b x s = .ok t) : t.f = s.f := by
  obtain ⟨v, _, h⟩ := access_bind h
  exact State.f_of_writeLoc h

theorem setLoc_f {b : Fin 8} {x : Loc} {s t : State} (h : setLoc b x s = .ok t) : t.f = s.f := by
  obtain ⟨v, _, h⟩ := access_bind h
  exact State.f_of_writeLoc h

/-- The flags of a sub-table entry by its field x (spec/30_encoding.md R111). -/
theorem subTable_flagsKept {sub : Byte} {s t : State} (h : subTable sub s = .ok t) :
    FlagsKept (fun x => writesFlag x (.cb sub)) s t := by
  by_cases h0 : fieldX sub = 0
  · rw [subTable, if_pos h0] at h
    simpa only [writesFlag, h0, decide_true, Bool.true_or] using shiftLoc_flagsKept h
  · by_cases h1 : fieldX sub = 1
    · rw [subTable, if_neg h0, if_pos h1] at h
      simpa [writesFlag, h1] using testLoc_flagsKept h
    · by_cases h2 : fieldX sub = 2
      · rw [subTable, if_neg h0, if_neg h1, if_pos h2] at h
        exact .of_f (resetLoc_f h)
      · rw [subTable, if_neg h0, if_neg h1, if_neg h2] at h
        exact .of_f (setLoc_f h)

/-! The stack accesses write no flag. -/
theorem State.f_of_push16 {s t : State} {v : Word} (h : s.push16 v = .ok t) : t.f = s.f := by
  rw [State.of_push16 h]
  rfl

theorem State.f_of_pop16 {s : State} {x : Word × State} (h : s.pop16 = .ok x) : x.2.f = s.f := by
  rw [(State.of_pop16 (v := x.1) (t := x.2) h).1]
  rfl

/-- A rule keeps the flags it does not write, and F's low nibble unless it is POP AF's. -/
theorem Rule.flagsKept {r : Rule} {s t : State} (hr : r ≠ .popPair .af) (h : r.run s = .ok t) : FlagsKept r.writes s t := by
  cases r with
  | loadReg q x =>
    obtain ⟨v, _, h⟩ := access_bind h
    cases h
    exact .of_f (State.setReg_f s q v)
  | storeHl x =>
    obtain ⟨v, _, h⟩ := access_bind h
    exact .of_f (by rw [State.of_write8 h]; rfl)
  | loadA m =>
    obtain ⟨v, _, h⟩ := access_bind h
    cases h
    exact .of_f (State.modify_f (s.setReg .a v) m)
  | storeA m =>
    obtain ⟨u, hu, h⟩ := access_bind h
    cases h
    exact .of_f ((State.modify_f u m).trans (by rw [State.of_write8 hu]; rfl))
  | storeSp x => exact .of_f (by rw [State.of_write16 h]; rfl)
  | alu op x =>
    obtain ⟨v, _, h⟩ := access_bind h
    cases h
    exact aluValue_flagsKept op v s
  | incLoc x => exact stepLoc_flagsKept h
  | decLoc x => exact stepLoc_flagsKept h
  | shiftLoc op x => exact shiftLoc_flagsKept h
  | testLoc b x => exact testLoc_flagsKept h
  | resetLoc b x => exact .of_f (resetLoc_f h)
  | setLoc b x => exact .of_f (setLoc_f h)
  | subTable sub => exact subTable_flagsKept h
  | pushPair p => exact .of_f (State.f_of_push16 h)
  | popPair p =>
    obtain ⟨x, hx, h⟩ := access_bind h
    cases h
    cases p
    case af => exact absurd rfl hr
    all_goals exact .of_f (State.f_of_pop16 hx)
  | call x =>
    obtain ⟨u, hu, h⟩ := access_bind h
    cases h
    have hf : u.f = s.f := State.f_of_push16 hu
    exact .of_f hf
  | ret | retEnable =>
    obtain ⟨x, hx, h⟩ := access_bind h
    cases h
    exact .of_f (State.f_of_pop16 hx)
  | loadPair p v | incPair p | decPair p =>
    cases h
    exact .of_f (State.setPairSp_f s p _)
  | loadSpHl | jumpRelative _ | jump _ | jumpHl | nop | halt | stop _ | setIme _ =>
    cases h
    exact .of_f rfl
  | loadHlSp e =>
    cases h
    exact .withFlags (u := s.setHl _) rfl nofun nofun nofun nofun
  | addSp e =>
    cases h
    exact .withFlags (u := s.setSp _) rfl nofun nofun nofun nofun
  | shiftA op =>
    cases h
    exact .withFlags (u := s.setReg .a _) rfl nofun nofun nofun nofun
  | addHl p =>
    cases h
    exact .withFlags (u := s.setHl _) rfl (fun _ => rfl) nofun nofun nofun
  | setCarry | complementCarry =>
    cases h
    exact .withFlags rfl (fun _ => rfl) nofun nofun nofun
  | decimalAdjust =>
    cases h
    exact .withFlags (u := s.setReg .a _) rfl nofun (fun _ => rfl) nofun nofun
  | complementA =>
    cases h
    exact .withFlags (u := s.setReg .a _) rfl (fun _ => rfl) nofun nofun fun _ => rfl

theorem popAf_lowNibble {s t : State} (h : (Rule.popPair .af).run s = .ok t) : t.f &&& 0x0F = 0 := by
  obtain ⟨x, _, h⟩ := access_bind h
  cases h
  exact lowNibble_maskF _

/-- The rule of a shape. -/
def Shape.rule : Shape → Option Rule
  | .always r | .onCond _ r => some r
  | .illegal _ => none

/-- POP AF's rule is run by POP AF alone. -/
theorem eq_pop_af_of_rule {i : Instr} (h : (shape i).2.rule = some (.popPair .af)) : i = .pop_af := by
  cases i
  case pop_af => rfl
  all_goals exact absurd h nofun

/-- Settles O42: a rule keeps the flags it does not write (`Rule.flagsKept`), which are those R37 does not list for the row
(`shape_writes`); POP AF lists all four and clears the low nibble; a halt and a condition that does not hold write none. -/
theorem unwrittenFlagsAreKept : Obligations.UnwrittenFlagsAreKept := by
  intro i s t h
  rcases exec_inversion h with ⟨r, u, hshape, hr, rfl⟩ | ⟨cc, r, _, _, rfl⟩ | ⟨x, rfl⟩
  · have hrule : (shape i).2.rule = some r ∧ (shape i).2.writes = r.writes := by
      rcases hshape with e | ⟨_, e, _⟩ <;> rw [e] <;> exact ⟨rfl, rfl⟩
    obtain ⟨hrule, hwrites⟩ := hrule
    by_cases hpop : r = .popPair .af
    · subst hpop
      obtain rfl := eq_pop_af_of_rule hrule
      have hlow : u.f &&& 0x0F = 0 := popAf_lowNibble hr
      exact ⟨fun x hx => absurd hx (by cases x <;> decide), .inr ⟨rfl, hlow⟩⟩
    · have hkept := Rule.flagsKept hpop hr
      rw [← hwrites, shape_writes] at hkept
      exact ⟨hkept.flag, .inl hkept.lowNibble⟩
  all_goals exact ⟨fun _ _ => rfl, .inl rfl⟩

/-! Bytes. -/

/-- The address an operand's place is stored at. -/
def Loc.addresses (s : State) : Loc → List Word
  | .reg _ => []
  | .atHl => [s.hl]

/-- The addresses a rule stores to, in the state it starts in. -/
def Rule.addresses (s : State) : Rule → List Word
  | .storeHl _ => [s.hl]
  | .storeA m => [s.address m]
  | .storeSp x => [x, x + 1]
  | .incLoc x | .decLoc x | .shiftLoc _ x | .resetLoc _ x | .setLoc _ x => x.addresses s
  | .pushPair _ | .call _ => [s.sp - 1, s.sp - 2]
  | .subTable sub => if fieldZ sub = 6 ∧ fieldX sub ≠ 1 then [s.hl] else []
  | _ => []

/-- `l` are the addresses a shape stores to where its rule runs. -/
def Shape.AddressesAre (s : State) (l : List Word) : Shape → Prop
  | .always r => l = r.addresses s
  | .onCond cc r => holdsOn s cc = true → l = r.addresses s
  | .illegal _ => True

/-- The rule of each row stores to the addresses the spec's rules give the row. -/
theorem shape_addresses (i : Instr) (s : State) : (shape i).2.AddressesAre s (storedAddresses i s) := by
  cases i
  case call_nz_a16 | call_z_a16 | call_nc_a16 | call_c_a16 => exact fun h => if_pos h
  case jr_nz_e8 | jr_z_e8 | jr_nc_e8 | jr_c_e8 | jp_nz_a16 | jp_z_a16 | jp_nc_a16 | jp_c_a16 | ret_nz | ret_z | ret_nc
    | ret_c => exact fun _ => rfl
  case illegal_d3 | illegal_db | illegal_dd | illegal_e3 | illegal_e4 | illegal_eb | illegal_ec | illegal_ed | illegal_f4
    | illegal_fc | illegal_fd => trivial
  all_goals exact rfl

/-! What each access leaves of the other bytes. -/

theorem State.byteAt_of_write8 {s t : State} {x y : Word} {v : Byte} (h : s.write8 x v = .ok t) (hy : y ∉ [x]) :
    t.byteAt y = s.byteAt y := by
  rw [State.of_write8 h, State.byteAt_setByte, if_neg fun e => hy (List.mem_singleton.mpr e)]

theorem State.byteAt_of_writeLoc {s t : State} {l : Loc} {y : Word} {v : Byte} (h : s.writeLoc l v = .ok t)
    (hy : y ∉ l.addresses s) : t.byteAt y = s.byteAt y := by
  cases l with
  | reg r =>
    cases h
    exact s.byteAt_setReg r v y
  | atHl => exact State.byteAt_of_write8 h hy

theorem State.byteAt_of_write16 {s t : State} {x v y : Word} (h : s.write16 x v = .ok t) (hy : y ∉ [x, x + 1]) :
    t.byteAt y = s.byteAt y := by
  simp only [List.mem_cons, List.not_mem_nil, or_false, not_or] at hy
  rw [State.of_write16 h, State.byteAt_setByte, State.byteAt_setByte, if_neg hy.2, if_neg hy.1]

theorem State.byteAt_of_push16 {s t : State} {v y : Word} (h : s.push16 v = .ok t) (hy : y ∉ [s.sp - 1, s.sp - 2]) :
    t.byteAt y = s.byteAt y := by
  simp only [List.mem_cons, List.not_mem_nil, or_false, not_or] at hy
  rw [State.of_push16 h, State.byteAt_pushed, if_neg hy.2, if_neg hy.1]

theorem State.mem_of_pop16 {s : State} {x : Word × State} (h : s.pop16 = .ok x) : x.2.mem = s.mem := by
  rw [(State.of_pop16 (v := x.1) (t := x.2) h).1]
  rfl

theorem stepLoc_byteAt {f : Byte → Stepped} {l : Loc} {s t : State} {y : Word} (h : stepLoc f l s = .ok t)
    (hy : y ∉ l.addresses s) : t.byteAt y = s.byteAt y := by
  obtain ⟨v, _, h⟩ := access_bind h
  obtain ⟨u, hu, h⟩ := access_bind h
  cases h
  exact (State.byteAt_withFlags ..).trans (State.byteAt_of_writeLoc hu hy)

theorem shiftLoc_byteAt {op : ShiftOp} {l : Loc} {s t : State} {y : Word} (h : shiftLoc op l s = .ok t)
    (hy : y ∉ l.addresses s) : t.byteAt y = s.byteAt y := by
  obtain ⟨v, _, h⟩ := access_bind h
  obtain ⟨u, hu, h⟩ := access_bind h
  cases h
  exact (State.byteAt_withFlags ..).trans (State.byteAt_of_writeLoc hu hy)

theorem testLoc_mem {b : Fin 8} {l : Loc} {s t : State} (h : testLoc b l s = .ok t) : t.mem = s.mem := by
  obtain ⟨v, _, h⟩ := access_bind h
  cases h
  rfl

theorem resetLoc_byteAt {b : Fin 8} {l : Loc} {s t : State} {y : Word} (h : resetLoc b l s = .ok t)
    (hy : y ∉ l.addresses s) : t.byteAt y = s.byteAt y := by
  obtain ⟨v, _, h⟩ := access_bind h
  exact State.byteAt_of_writeLoc h hy

theorem setLoc_byteAt {b : Fin 8} {l : Loc} {s t : State} {y : Word} (h : setLoc b l s = .ok t)
    (hy : y ∉ l.addresses s) : t.byteAt y = s.byteAt y := by
  obtain ⟨v, _, h⟩ := access_bind h
  exact State.byteAt_of_writeLoc h hy

/-- The operand of a sub-opcode is the byte at HL where z is 6 (spec/30_encoding.md R102). -/
theorem addresses_locOf (z : BitVec 3) (s : State) : (locOf z).addresses s = if z = 6 then [s.hl] else [] := by
  have hz : locOf z = .atHl ↔ z = 6 := by
    revert z
    decide
  split
  · next h6 => rw [hz.mpr h6]; rfl
  · next h6 =>
    cases hl : locOf z with
    | reg r => rfl
    | atHl => exact absurd (hz.mp hl) h6

theorem subTable_byteAt {sub : Byte} {s t : State} {y : Word} (h : subTable sub s = .ok t)
    (hy : y ∉ (Rule.subTable sub).addresses s) : t.byteAt y = s.byteAt y := by
  by_cases h1 : fieldX sub = 1
  · rw [subTable, if_neg (by rw [h1]; decide), if_pos h1] at h
    exact State.byteAt_of_mem (testLoc_mem h) y
  · have hloc : y ∉ (locOf (fieldZ sub)).addresses s := by
      rw [addresses_locOf]
      simpa only [Rule.addresses, ne_eq, h1, not_false_eq_true, and_true] using hy
    by_cases h0 : fieldX sub = 0
    · rw [subTable, if_pos h0] at h
      exact shiftLoc_byteAt h hloc
    · by_cases h2 : fieldX sub = 2
      · rw [subTable, if_neg h0, if_neg h1, if_pos h2] at h
        exact resetLoc_byteAt h hloc
      · rw [subTable, if_neg h0, if_neg h1, if_neg h2] at h
        exact setLoc_byteAt h hloc

/-- A rule keeps every byte outside the addresses it stores to. -/
theorem Rule.byteAt_of_ok {r : Rule} {s t : State} {y : Word} (h : r.run s = .ok t) (hy : y ∉ r.addresses s) :
    t.byteAt y = s.byteAt y := by
  cases r with
  | loadReg q x =>
    obtain ⟨v, _, h⟩ := access_bind h
    cases h
    exact s.byteAt_setReg q v y
  | storeHl x =>
    obtain ⟨v, _, h⟩ := access_bind h
    exact State.byteAt_of_write8 h hy
  | loadA m =>
    obtain ⟨v, _, h⟩ := access_bind h
    cases h
    exact State.byteAt_of_mem (State.modify_mem (s.setReg .a v) m) y
  | storeA m =>
    obtain ⟨u, hu, h⟩ := access_bind h
    cases h
    exact (State.byteAt_of_mem (State.modify_mem u m) y).trans (State.byteAt_of_write8 hu hy)
  | storeSp x => exact State.byteAt_of_write16 h hy
  | alu op x =>
    obtain ⟨v, _, h⟩ := access_bind h
    cases h
    cases op <;> rfl
  | incLoc x => exact stepLoc_byteAt h hy
  | decLoc x => exact stepLoc_byteAt h hy
  | shiftLoc op x => exact shiftLoc_byteAt h hy
  | testLoc b x => exact State.byteAt_of_mem (testLoc_mem h) y
  | resetLoc b x => exact resetLoc_byteAt h hy
  | setLoc b x => exact setLoc_byteAt h hy
  | subTable sub => exact subTable_byteAt h hy
  | pushPair p => exact State.byteAt_of_push16 h hy
  | popPair p =>
    obtain ⟨x, hx, h⟩ := access_bind h
    cases h
    cases p <;> exact State.byteAt_of_mem (State.mem_of_pop16 hx) y
  | call x =>
    obtain ⟨u, hu, h⟩ := access_bind h
    cases h
    exact (u.byteAt_setPc x y).trans (State.byteAt_of_push16 hu hy)
  | ret | retEnable =>
    obtain ⟨x, hx, h⟩ := access_bind h
    cases h
    exact State.byteAt_of_mem (State.mem_of_pop16 hx) y
  | loadPair p v | incPair p | decPair p =>
    cases h
    exact State.byteAt_of_mem (State.setPairSp_mem s p _) y
  | loadSpHl | loadHlSp _ | decimalAdjust | complementA | setCarry | complementCarry | addHl _ | addSp _ | shiftA _
    | jumpRelative _ | jump _ | jumpHl | nop | halt | stop _ | setIme _ =>
    cases h
    rfl

theorem Rule.addresses_advance (r : Rule) (s : State) (n : Nat) : r.addresses (s.advance n) = r.addresses s := by
  cases r with
  | storeA m => cases m <;> rfl
  | incLoc x | decLoc x | shiftLoc _ x | resetLoc _ x | setLoc _ x => cases x <;> rfl
  | _ => rfl

/-- Settles O43: a rule keeps every byte outside the addresses it stores to (`Rule.byteAt_of_ok`), which are those of the spec's
rule for the row (`shape_addresses`); a halt and a condition that does not hold store nothing. -/
theorem otherBytesAreKept : Obligations.OtherBytesAreKept := by
  intro i s t h x hx
  rcases exec_inversion h with ⟨r, u, hshape, hr, rfl⟩ | ⟨cc, r, _, _, rfl⟩ | ⟨_, rfl⟩
  · have haddr : storedAddresses i s = r.addresses s := by
      have hrow := shape_addresses i s
      rcases hshape with e | ⟨cc, e, hcc⟩ <;> rw [e] at hrow
      · exact hrow
      · exact hrow ((holdsOn_eq_cond s cc).trans hcc)
    rw [haddr, ← r.addresses_advance s i.key.length] at hx
    exact (State.byteAt_retire ..).trans (r.byteAt_of_ok (s := s.advance i.key.length) hr hx)
  all_goals rfl

end Sys2Proof.Machine
end

section
/-! 16-bit accesses and the stack (spec/20_memory.md R72, R74, spec/41_stack_calls.md R160 to R163). -/

namespace Sys2Proof.Machine

open Claim

theorem State.read16_error_low {s : State} {x : Word} (h : s.inRange x = false) : s.read16 x = .error x := by
  simp only [State.read16, State.read8_error h, bind, Except.bind]

theorem State.read16_error_high {s : State} {x : Word} (hlo : s.inRange x = true) (hhi : s.inRange (x + 1) = false) :
    s.read16 x = .error (x + 1) := by
  simp only [State.read16, State.read8_ok hlo, State.read8_error hhi, bind, Except.bind]

/-- The word stored at an address is read back there: its two addresses differ. -/
theorem State.read16_setByte_setByte {s : State} {x : Word} (hlo : s.inRange x = true) (hhi : s.inRange (x + 1) = true)
    (v : Word) : ((s.setByte x (loByte v)).setByte (x + 1) (hiByte v)).read16 x = .ok v := by
  have hne : x ≠ x + 1 := by bv_omega
  have hread := State.read16_ok (s := (s.setByte x (loByte v)).setByte (x + 1) (hiByte v)) hlo hhi
  simpa only [State.byteAt_setByte, if_true, if_neg hne, wordOf_hiByte_loByte] using hread

/-- Settles O10: where both addresses exist, `State.read16_ok` and `State.write16_ok` give the two bytes, which are the word's
quotient and remainder by 256; else the first that does not exist is reported. -/
theorem wordsAreLittleEndian : Obligations.WordsAreLittleEndian := by
  refine fun s x v => ⟨fun hlo hhi => ⟨⟨_, State.read16_ok hlo hhi, toNat_wordOf _ _⟩, _, State.write16_ok hlo hhi v, ?low, ?high,
    fun y hlo' hhi' => ?other, State.read16_setByte_setByte hlo hhi v, rfl⟩, fun hlo => ?noLow, fun hlo hhi => ?noHigh, rfl⟩
  case low =>
    have hne : x ≠ x + 1 := by bv_omega
    rw [State.byteAt_setByte, State.byteAt_setByte, if_neg hne, if_pos rfl, toNat_loByte]
  case high => rw [State.byteAt_setByte, if_pos rfl, toNat_hiByte]
  case other => rw [State.byteAt_setByte, State.byteAt_setByte, if_neg hhi', if_neg hlo']
  case noLow => exact ⟨State.read16_error_low hlo, State.write16_error_low hlo v⟩
  case noHigh => exact ⟨State.read16_error_high hlo hhi, State.write16_error_high hlo hhi v⟩

theorem State.push8_ok {s : State} (h : s.inRange (s.sp - 1) = true) (v : Byte) :
    s.push8 v = .ok ((s.setSp (s.sp - 1)).setByte (s.sp - 1) v) :=
  State.write8_ok (s := s.setSp (s.sp - 1)) h v

theorem State.pop8_ok {s : State} (h : s.inRange s.sp = true) : s.pop8 = .ok (s.byteAt s.sp, s.setSp (s.sp + 1)) := by
  rw [State.pop8, State.read8_ok h]
  rfl

/-- A byte pushed is the byte popped, and SP is where it was. -/
theorem push8_then_pop8 {s : State} (h : s.inRange (s.sp - 1) = true) (v : Byte) :
    ∃ u, ((s.setSp (s.sp - 1)).setByte (s.sp - 1) v).pop8 = .ok (v, u) ∧ u.sp = s.sp := by
  have hpop := State.pop8_ok (s := (s.setSp (s.sp - 1)).setByte (s.sp - 1) v) h
  rw [State.byteAt_setByte, State.setByte_sp, State.setSp_sp, if_pos rfl] at hpop
  exact ⟨_, hpop, BitVec.sub_add_cancel s.sp 1⟩

/-- A word pushed is the word read and popped at the new SP, and the pop leaves SP where it was. -/
theorem push16_then_pop16 {s : State} (hs : PushExists s) (w : Word) :
    (s.pushed w).read16 (s.pushed w).sp = .ok w ∧ ∃ u, (s.pushed w).pop16 = .ok (w, u) ∧ u.sp = s.sp := by
  obtain ⟨hlo, hhi⟩ := popExists_pushed hs w
  have hread := State.read16_ok hlo hhi
  have hpop := State.pop16_ok hlo hhi
  rw [State.top_pushed] at hpop
  exact ⟨hread.trans (congrArg _ (s.top_pushed w)), _, hpop, BitVec.sub_add_cancel s.sp 2⟩

/-- Settles O11: each primitive where its bytes exist, by its lemma of success, and the two round trips. -/
theorem stackIsLastInFirstOut : Obligations.StackIsLastInFirstOut := by
  refine fun s v w => ⟨fun h => ?push8, State.pop8_ok, fun hs => ?push16, fun ⟨hlo, hhi⟩ => State.pop16_ok hlo hhi⟩
  case push8 =>
    exact ⟨_, State.push8_ok h v, rfl, fun y => State.byteAt_setByte (s.setSp _) _ y v, rfl, push8_then_pop8 h v⟩
  case push16 =>
    obtain ⟨hread, hpop⟩ := push16_then_pop16 hs w
    exact ⟨_, State.push16_ok hs.1 hs.2 w, rfl, State.byteAt_pushed s w, rfl, hread, hpop⟩

end Sys2Proof.Machine
end

section
/-! The pair AF and POP AF (spec/10_state.md R33, R36, spec/41_stack_calls.md R166). -/

namespace Sys2Proof.Machine

open Claim

theorem toNat_maskF (v : Byte) : (maskF v).toNat = v.toNat / 16 * 16 := by
  have h (n : Fin 256) : (maskF (BitVec.ofFin n)).toNat = n.val / 16 * 16 := by
    revert n
    decide +kernel
  exact h v.toFin

/-- A masked byte keeps its four flags. -/
theorem getFlag_maskF (v : Byte) (x : Flag) : getFlag (maskF v) x = getFlag v x := by
  cases x <;> simp [getFlag, maskF, Flag.bit]

/-- A word survives a write of AF where its low nibble is zero. -/
theorem af_setAf_eq_iff (s : State) (v : Word) : (s.setAf v).af = v ↔ v.toNat % 16 = 0 := by
  have haf : (s.setAf v).af.toNat = v.toNat / 256 * 256 + v.toNat % 256 / 16 * 16 := by
    rw [State.af, State.setAf, toNat_wordOf, toNat_hiByte, toNat_maskF, toNat_loByte]
  rw [← BitVec.toNat_inj, haf]
  omega

theorem exec_pop_af_ok {s : State} (hs : PopExists s) :
    exec .pop_af s = .next ((((s.advance 1).setSp (s.sp + 2)).setAf s.top).retire (.primary 0xF1) true) := by
  obtain ⟨hlo, hhi⟩ := hs
  exact exec_ok (exec_pop .af s) (popPair_ok .af (s := s.advance 1) hlo hhi)

/-- Settles O37: a write of AF stores `hiByte` and the masked `loByte`, whose numbers are those of the statement; POP AF is that
write of the word at SP (`exec_pop_af_ok`), and masking keeps the four flags (`getFlag_maskF`). -/
theorem afKeepsTheLowNibbleZero : Obligations.AfKeepsTheLowNibbleZero := by
  refine ⟨fun s v => ⟨toNat_wordOf s.a s.f, toNat_hiByte v, ?_, rfl, af_setAf_eq_iff s v⟩, encodes_of_defaultCost rfl rfl,
    fun s => ⟨popStops_of_rule (exec_pop .af s) (popPair_error .af), fun hs => ?pop⟩⟩
  · exact (toNat_maskF (loByte v)).trans (by rw [toNat_loByte])
  case pop =>
    have hlow : loByte s.top = s.byteAt s.sp := loByte_wordOf _ _
    refine ⟨_, exec_pop_af_ok hs, rfl, hiByte_wordOf _ _, ?number, ?flags, rfl⟩
    case number => exact (toNat_maskF (loByte s.top)).trans (by rw [hlow])
    case flags =>
      rw [← hlow]
      exact ⟨getFlag_maskF _ .z, getFlag_maskF _ .n, getFlag_maskF _ .h, getFlag_maskF _ .c⟩

end Sys2Proof.Machine
end

section
/-! DAA after an addition and after a subtraction of BCD bytes (spec/43_alu8.md R210, R211, R227). -/

namespace Sys2Proof.Machine

open Claim

/-! The corrections, over the digits: `p`, `q` and `r`, `s` are the digits of the two bytes. -/

/-- The high digit of a sum is corrected where the sum is above 0x99, whether the byte or the carry shows it. -/
theorem daaHigh_sum {m : Nat} (hm : m ≤ 306) : daaHigh (m % 256 : Nat) false (decide (m > 255)) = decide (m > 0x99) := by
  rw [daaHigh, Bool.not_false, Bool.true_and, ← Bool.decide_or, decide_eq_decide]
  omega

/-- The low digit of a sum is corrected where the sum of the low digits is above 9, whether the digit or the half carry shows
it. -/
theorem daaLow_sum {a : Int} {d : Nat} (ha : a % 16 = d % 16) (hd : d ≤ 18) :
    daaLow a false (decide (d > 15)) = decide (d > 9) := by
  rw [daaLow, Bool.not_false, Bool.true_and, ← Bool.decide_or, decide_eq_decide]
  omega

theorem daaValue_sum {p q r s : Nat} (hp : p < 10) (hq : q < 10) (hr : r < 10) (hs : s < 10) :
    daaValue ((16 * p + q + (16 * r + s)) % 256 : Nat) false (decide (q + s > 15))
      (decide (16 * p + q + (16 * r + s) > 255)) % 256
      = 16 * ((p + r + (q + s) / 10) % 10 : Nat) + ((q + s) % 10 : Nat) := by
  rw [daaValue, daaHigh_sum (by omega), daaLow_sum ?low (by omega)] <;>
    simp only [daaCorrect, Bool.false_eq_true, if_false, decide_eq_true_eq]
  case low => split <;> omega
  split <;> split <;> omega

/-- After a subtraction the two borrows alone decide the corrections. -/
theorem daaValue_difference {p q r s : Nat} (hp : p < 10) (hq : q < 10) (hr : r < 10) (hs : s < 10) :
    daaValue ((16 * p + q + 256 - (16 * r + s)) % 256 : Nat) true (decide (q < s)) (decide (16 * p + q < 16 * r + s)) % 256
      = 16 * ((p + 10 - r - if q < s then 1 else 0) % 10 : Nat) + ((q + 10 - s) % 10 : Nat) := by
  simp only [daaValue, daaCorrect, daaHigh, daaLow, Bool.not_true, Bool.false_and, Bool.or_false, if_true, decide_eq_true_eq]
  split <;> split <;> omega

/-! The same of BCD bytes. -/

theorem toNat_eq_digits (v : Byte) : v.toNat = 16 * (v.toNat / 16) + v.toNat % 16 := (Nat.div_add_mod v.toNat 16).symm

/-- A byte of two decimal digits is BCD, and its value is theirs. -/
theorem isBcd_of_digits {v : Byte} {x y : Nat} (hx : x < 10) (hy : y < 10) (h : v.toNat = 16 * x + y) :
    IsBcd v ∧ decimal v = x * 10 + y := by
  rw [IsBcd, decimal, h]
  omega

theorem daa_of_sum {a b v : Byte} (ha : IsBcd a) (hb : IsBcd b)
    (hv : (v.toNat : Int) = daaValue ((a.toNat + b.toNat) % 256 : Nat) false (decide (a.toNat % 16 + b.toNat % 16 > 15))
      (decide (a.toNat + b.toNat > 255)) % 256) : IsBcd v ∧ decimal v = (decimal a + decimal b) % 100 := by
  obtain ⟨hp, hq⟩ := ha
  obtain ⟨hr, hs⟩ := hb
  have hsum := daaValue_sum hp hq hr hs
  rw [← toNat_eq_digits, ← toNat_eq_digits, ← hv] at hsum
  obtain ⟨hbcd, hdecimal⟩ := isBcd_of_digits (Nat.mod_lt _ (by decide)) (Nat.mod_lt _ (by decide)) (Int.natCast_inj.mp hsum)
  refine ⟨hbcd, hdecimal.trans ?_⟩
  rw [decimal, decimal]
  omega

theorem daa_of_difference {a b v : Byte} (ha : IsBcd a) (hb : IsBcd b)
    (hv : (v.toNat : Int) = daaValue ((a.toNat + 256 - b.toNat) % 256 : Nat) true (decide (a.toNat % 16 < b.toNat % 16))
      (decide (a.toNat < b.toNat)) % 256) : IsBcd v ∧ decimal v = (decimal a + 100 - decimal b) % 100 := by
  obtain ⟨hp, hq⟩ := ha
  obtain ⟨hr, hs⟩ := hb
  have hdiff := daaValue_difference hp hq hr hs
  rw [← toNat_eq_digits, ← toNat_eq_digits, ← hv] at hdiff
  obtain ⟨hbcd, hdecimal⟩ := isBcd_of_digits (Nat.mod_lt _ (by decide)) (Nat.mod_lt _ (by decide)) (Int.natCast_inj.mp hdiff)
  refine ⟨hbcd, hdecimal.trans ?_⟩
  rw [decimal, decimal]
  split <;> omega

/-- The carry DAA leaves after an addition is the sum's hundred, after a subtraction the borrow. -/
theorem daaHigh_of_sum {a b : Byte} (ha : IsBcd a) (hb : IsBcd b) :
    daaHigh ((a.toNat + b.toNat) % 256 : Nat) false (decide (a.toNat + b.toNat > 255))
      = decide (decimal a + decimal b ≥ 100) := by
  obtain ⟨hp, hq⟩ := ha
  obtain ⟨hr, hs⟩ := hb
  rw [daaHigh_sum (by omega), decide_eq_decide, decimal, decimal]
  omega

theorem daaHigh_of_difference {a b : Byte} (ha : IsBcd a) (hb : IsBcd b) (x : Int) :
    daaHigh x true (decide (a.toNat < b.toNat)) = decide (decimal a < decimal b) := by
  obtain ⟨hp, hq⟩ := ha
  obtain ⟨hr, hs⟩ := hb
  rw [daaHigh, Bool.not_true, Bool.false_and, Bool.or_false, decide_eq_decide, decimal, decimal]
  omega

/-- Settles O24: ADD and SUB leave in A and the flags what `AluResult` says, and DAA makes of it `daaValue`, which is the digits of
the BCD sum or difference; the carry after DAA is `daaHigh`, a sum above 0x99 or the borrow. -/
theorem decimalAdjustMakesBcd : Obligations.DecimalAdjustMakesBcd := by
  refine fun s ha hb => ⟨?sum, ?difference⟩
  case sum =>
    obtain ⟨_, _, _, _, hops⟩ := additionAndFlags (.loc (.reg .b))
    obtain ⟨_, _, hok⟩ := hops s
    obtain ⟨⟨t, hexec, hresult, ⟨_, hn, hh, hc, _⟩, _⟩, _⟩ := hok rfl
    obtain ⟨u, hdaa, hu, ⟨_, _, _, hcarry, _⟩, _⟩ := exec_daa_spec t
    rw [hresult, hn, hc] at hu hcarry
    rw [hh] at hu
    obtain ⟨hbcd, hdecimal⟩ := daa_of_sum ha hb hu
    exact ⟨t, u, hexec, hdaa, hbcd, hdecimal, hcarry.trans (daaHigh_of_sum ha hb)⟩
  case difference =>
    obtain ⟨_, _, _, _, _, _, hops⟩ := subtractionAndFlags (.loc (.reg .b))
    obtain ⟨_, _, _, hok⟩ := hops s
    obtain ⟨⟨t, hexec, hresult, ⟨_, hn, hh, hc, _⟩, _⟩, _⟩ := hok rfl
    obtain ⟨u, hdaa, hu, ⟨_, _, _, hcarry, _⟩, _⟩ := exec_daa_spec t
    rw [hresult, hn, hc] at hu hcarry
    rw [hh] at hu
    obtain ⟨hbcd, hdecimal⟩ := daa_of_difference ha hb hu
    exact ⟨t, u, hexec, hdaa, hbcd, hdecimal, hcarry.trans (daaHigh_of_difference ha hb _)⟩

end Sys2Proof.Machine
end

section
/-! The CB-prefixed format (spec/30_encoding.md R111): the entry of each sub-opcode by its fields x, y and z, and the row
CB_prefix, which runs it (notes/assumptions/8.md). -/

namespace Sys2Proof.Machine

open Claim

/-- The instruction the fields of a sub-opcode give. -/
def subInstr (sub : Byte) : Instr :=
  if fieldX sub = 0 then Form.shift (shiftOpOf (fieldY sub)) (locOf (fieldZ sub))
  else if fieldX sub = 1 then Form.bit (fieldY sub).toFin (locOf (fieldZ sub))
  else if fieldX sub = 2 then Form.res (fieldY sub).toFin (locOf (fieldZ sub))
  else Form.set (fieldY sub).toFin (locOf (fieldZ sub))

/-- It is the entry that stands at the sub-opcode's place in the table. -/
theorem cbEntry_eq_subInstr (sub : Byte) : cbEntry sub = subInstr sub := by
  suffices h : ∀ n : Fin 256, cbEntry (BitVec.ofFin n) = subInstr (BitVec.ofFin n) from h sub.toFin
  decide +kernel

theorem encode_subInstr (sub : Byte) : encode (subInstr sub) = [cbByte, sub] := by
  rw [← cbEntry_eq_subInstr, (cbEntry_ok sub).1]

theorem key_subInstr (sub : Byte) : (subInstr sub).key = .cb sub := by
  rw [← cbEntry_eq_subInstr, cbEntry_key]

theorem locCode_locOf (z : BitVec 3) : locCode (locOf z) = z.toNat := by
  revert z
  decide

theorem shiftCode_shiftOpOf (y : BitVec 3) : shiftCode (shiftOpOf y) = y.toNat := by
  revert y
  decide

/-- The rule the row CB_prefix runs is the sub-opcode's instruction's. -/
theorem exec_subInstr (sub : Byte) (s : State) :
    exec (subInstr sub) s = performTaken (.cb sub) true (subTable sub) s := by
  rw [← key_subInstr sub]
  unfold subInstr subTable
  split
  · exact exec_shift _ _ s
  · split
    · exact exec_bit _ _ s
    · split
      · exact exec_res _ _ s
      · exact exec_set _ _ s

/-- `t` has PC past the instruction, its cost added and the instruction counted. -/
def CompletedIn (i : Instr) (s t : State) : Prop :=
  t.pc = (passed i true s).pc ∧ t.icount = (passed i true s).icount ∧ t.cycles = (passed i true s).cycles

theorem completedIn_of_frame {i : Instr} {s t u : State} (h : u = passed i true s) (hpc : u.pc = t.pc)
    (hicount : u.icount = t.icount) (hcycles : u.cycles = t.cycles) : CompletedIn i s t := by
  subst h
  exact ⟨hpc.symm, hicount.symm, hcycles.symm⟩

theorem completedIn_of_rewritten {i : Instr} {s t : State} {x : Loc} {r : Byte} (h : Rewritten i s t x r) :
    CompletedIn i s t := by
  cases x with
  | reg q => exact completedIn_of_frame h.2 (by cases q <;> rfl) (by cases q <;> rfl) (by cases q <;> rfl)
  | atHl => exact completedIn_of_frame h.2 rfl rfl rfl

/-- An entry of the sub-table completes where its operand exists. -/
theorem exec_subInstr_ok {sub : Byte} {s : State} (hx : present s (.loc (locOf (fieldZ sub))) = true) :
    ∃ t, exec (subInstr sub) s = .next t ∧ CompletedIn (subInstr sub) s t := by
  unfold subInstr
  split
  · obtain ⟨t, _, hexec, hwritten, _⟩ := exec_shift_ok (shiftOpOf (fieldY sub)) hx
    exact ⟨t, hexec, completedIn_of_rewritten hwritten⟩
  · split
    · obtain ⟨t, hexec, _, hframe⟩ := exec_bit_ok (fieldY sub).toFin hx
      exact ⟨t, hexec, completedIn_of_frame hframe rfl rfl rfl⟩
    · split
      · obtain ⟨t, _, hexec, hwritten, _⟩ := exec_res_ok (fieldY sub).toFin hx
        exact ⟨t, hexec, completedIn_of_rewritten hwritten⟩
      · obtain ⟨t, _, hexec, hwritten, _⟩ := exec_set_ok (fieldY sub).toFin hx
        exact ⟨t, hexec, completedIn_of_rewritten hwritten⟩

/-- Settles O32: the instruction of the statement is `subInstr`, the table's entry at the sub-opcode; the row CB_prefix runs
`subTable`, which is that instruction's rule (`exec_subInstr`), and it completes as the entry does. -/
theorem prefixSelectsTheSubTable : Obligations.PrefixSelectsTheSubTable := by
  refine fun sub => ⟨fun rest => ?decode, locCode_locOf _, shiftCode_shiftOpOf _, fun s => (exec_subInstr sub s).symm,
    fun s hx => ?completes⟩
  case decode =>
    have hentry : decode (0xCB :: sub :: rest) = .ok (cbEntry sub, rest) := rfl
    exact hentry.trans (by rw [cbEntry_eq_subInstr]; rfl)
  case completes =>
    obtain ⟨t, hexec, hpc, hicount, hcycles⟩ := exec_subInstr_ok hx
    rw [passed, encode_subInstr] at hpc
    rw [passed, key_subInstr] at hcycles
    exact ⟨t, (exec_subInstr sub s).symm.trans hexec, hpc, hicount, hcycles⟩

end Sys2Proof.Machine
end

section
/-! The values at construction (spec/10_state.md R47) and the illegal rows (spec/40_engine.md R140). -/

namespace Sys2Proof.Machine

/-- Settles O7: closed facts about the one state `State.reset`. -/
theorem constructionValues : Obligations.ConstructionValues := by
  unfold Obligations.ConstructionValues
  decide

/-- What the statement says of a row, from its byte and its meaning. -/
theorem illegalRow {op : Byte} {i : Instr} {s : State} (hbytes : encode i = [op]) (hexec : exec i s = illegal op s)
    (hop : op ∈ illegalOpcodes) :
    encode i = [op] ∧ exec i s = .next { s with run := .halted (.unimplementedOpcode op s.pc false) } ∧
      ∀ p : Params, p.implements (.primary op) = false :=
  ⟨hbytes, hexec, fun p => p.implements_of_illegal hop⟩

/-- Settles O41: each of the 11 rows is encoded by its opcode and means `illegal` of it. -/
theorem illegalOpcodesHalt : Obligations.IllegalOpcodesHalt := by
  intro s
  simp only [List.forall_mem_cons, List.not_mem_nil, false_imp_iff, implies_true, and_true]
  refine ⟨?_, ?_, ?_, ?_, ?_, ?_, ?_, ?_, ?_, ?_, ?_⟩
  all_goals exact illegalRow rfl rfl (by decide)

end Sys2Proof.Machine
end
